-- ==== Sys2Proof/Word.lean ====
section
/-! DEFINITION. The words of the BCDU: bytes, 32-bit header words, and small tuples of channels. -/

namespace Sys2Proof

/-- One byte of SRC, PAD, OUT or of a block (`10_state.md` R22, R34). -/
abbrev Byte := BitVec 8

/-- One 32-bit word of the container header (`30_encoding.md` R71). -/
abbrev Word := BitVec 32

/-- The three colour channels, in the order R, G, B (`00_scope.md` R12). -/
structure Rgb (α : Type) where
  r : α
  g : α
  b : α
  deriving DecidableEq, Repr

/-- The four channels, in the order R, G, B, A (`00_scope.md` R12). -/
structure Rgba (α : Type) where
  r : α
  g : α
  b : α
  a : α
  deriving DecidableEq, Repr

/-- The same function on every channel. -/
def Rgb.map {α β : Type} (f : α → β) (x : Rgb α) : Rgb β := ⟨f x.r, f x.g, f x.b⟩

/-- A function of two pixels, channel by channel. -/
def Rgb.map₂ {α β γ : Type} (f : α → β → γ) (x : Rgb α) (y : Rgb β) : Rgb γ :=
  ⟨f x.r y.r, f x.g y.g, f x.b y.b⟩

/-- The same function on every channel. -/
def Rgba.map {α β : Type} (f : α → β) (x : Rgba α) : Rgba β := ⟨f x.r, f x.g, f x.b, f x.a⟩

/-- A function of two pixels, channel by channel. -/
def Rgba.map₂ {α β γ : Type} (f : α → β → γ) (x : Rgba α) (y : Rgba β) : Rgba γ :=
  ⟨f x.r y.r, f x.g y.g, f x.b y.b, f x.a y.a⟩

/-- The channels of a colour by number, 0 = R, 1 = G, 2 = B (`10_state.md` R36). -/
def Rgb.chan {α : Type} (x : Rgb α) : Nat → α
  | 0 => x.r
  | 1 => x.g
  | _ => x.b

/-- The channels of a pixel by number, 0 = R, 1 = G, 2 = B, 3 = A (`10_state.md` R37). -/
def Rgba.chan {α : Type} (x : Rgba α) : Nat → α
  | 0 => x.r
  | 1 => x.g
  | 2 => x.b
  | _ => x.a

/-- The channel bytes of a four-channel pixel, in OUT order (`10_state.md` R31). -/
def Rgba.bytes (x : Rgba Byte) : List Byte := [x.r, x.g, x.b, x.a]

end Sys2Proof
end

