-- ==== Sys2Proof/Config.lean ====
section
/-! DEFINITION. The implementation parameters of `00_scope.md` R6, as one record. The record the model runs with is
`Machine.config` in `Machine/Params.lean` (the spec's defaults). The spec leaves no RESULT undefined (`43_bc6h.md` R177,
`44_bc7.md` R203, `60_exceptions.md` R275), so there is no free value. -/

namespace Sys2Proof

/-- The parameters a model takes (`00_scope.md` R6, `92_eei_decisions.md` D28). -/
structure Config where
  /-- `SRC_CAP`: capacity of SRC in bytes, none = unbounded. -/
  srcCap : Option Nat
  /-- `OFF_BITS`: width of offsets and sizes, none = unbounded. -/
  offBits : Option Nat
  /-- `EXPAND565`: a packed 5-6-5 word to three 8-bit channels. -/
  expand565 : BitVec 16 → Rgb Byte
  /-- `BC5_BLUE`: the third output channel of BC5 and BC5S. -/
  bc5Blue : Byte
  /-- `BC6H_ERR`: the fallback pixel of a BC6H block error. -/
  bc6hErr : Rgba Byte
  /-- `BC7_ERR`: the fallback pixel of a BC7 block error. -/
  bc7Err : Rgba Byte
  /-- `CHECK_SIZES`: whether the two size words of the header are validated. -/
  checkSizes : Bool

end Sys2Proof
end

