-- ==== Sys2Proof/Syntax.lean ====
section
/-! DEFINITION. The instruction set of the BCDU (`00_scope.md` R3): one constructor per row of `spec/opcode_table.json`,
its operands the fields the row and `30_encoding.md` R75-R82 give it. Operand widths are exact, so most rows are well-formed
by their types. -/

namespace Sys2Proof

/-- The resolved codec, register FMT (`10_state.md` R30): a closed enumeration. -/
inductive Fmt where
  | none | bc1 | bc2 | bc3 | bc4 | bc4s | bc5 | bc5s | bc6h | bc7
  deriving DecidableEq, Repr

/-- The instructions: blocks, dispatch codes and host commands (`00_scope.md` R3). -/
inductive Instr where
  /-- BC1 block, `BLK64C` (`30_encoding.md` R75, `42_fixed_gradient.md` R131). -/
  | bc1 (c0 : BitVec 16) (c1 : BitVec 16) (sel : BitVec 32)
  /-- BC2 block, `BLK64A` then `BLK64C` (R77, R78, R138). -/
  | bc2 (alpha : BitVec 64) (c0 : BitVec 16) (c1 : BitVec 16) (sel : BitVec 32)
  /-- BC3 block, `BLK64G` then `BLK64C` (R78, R141). -/
  | bc3 (e0 : BitVec 8) (e1 : BitVec 8) (asel : BitVec 48) (c0 : BitVec 16) (c1 : BitVec 16) (sel : BitVec 32)
  /-- BC4 block, `BLK64G` (R76, R144). -/
  | bc4 (e0 : BitVec 8) (e1 : BitVec 8) (sel : BitVec 48)
  /-- BC4S block, `BLK64G` (R76, R148). -/
  | bc4s (e0 : BitVec 8) (e1 : BitVec 8) (sel : BitVec 48)
  /-- BC5 block, two `BLK64G`, red then green (R78, R150). -/
  | bc5 (re0 : BitVec 8) (re1 : BitVec 8) (rsel : BitVec 48) (ge0 : BitVec 8) (ge1 : BitVec 8) (gsel : BitVec 48)
  /-- BC5S block, two `BLK64G` (R78, R152). -/
  | bc5s (re0 : BitVec 8) (re1 : BitVec 8) (rsel : BitVec 48) (ge0 : BitVec 8) (ge1 : BitVec 8) (gsel : BitVec 48)
  /-- BC6H mode M1: header bits after the mode field, index bits (`30_encoding.md` R79, R80; `43_bc6h.md` R163). -/
  | bc6hM1 (header : BitVec 80) (indices : BitVec 46)
  /-- BC6H mode M2: header bits after the mode field, index bits (`30_encoding.md` R79, R80; `43_bc6h.md` R163). -/
  | bc6hM2 (header : BitVec 80) (indices : BitVec 46)
  /-- BC6H mode M3: header bits after the mode field, index bits (`30_encoding.md` R79, R80; `43_bc6h.md` R163). -/
  | bc6hM3 (header : BitVec 77) (indices : BitVec 46)
  /-- BC6H mode M4: header bits after the mode field, index bits (`30_encoding.md` R79, R80; `43_bc6h.md` R163). -/
  | bc6hM4 (header : BitVec 77) (indices : BitVec 46)
  /-- BC6H mode M5: header bits after the mode field, index bits (`30_encoding.md` R79, R80; `43_bc6h.md` R163). -/
  | bc6hM5 (header : BitVec 77) (indices : BitVec 46)
  /-- BC6H mode M6: header bits after the mode field, index bits (`30_encoding.md` R79, R80; `43_bc6h.md` R163). -/
  | bc6hM6 (header : BitVec 77) (indices : BitVec 46)
  /-- BC6H mode M7: header bits after the mode field, index bits (`30_encoding.md` R79, R80; `43_bc6h.md` R163). -/
  | bc6hM7 (header : BitVec 77) (indices : BitVec 46)
  /-- BC6H mode M8: header bits after the mode field, index bits (`30_encoding.md` R79, R80; `43_bc6h.md` R163). -/
  | bc6hM8 (header : BitVec 77) (indices : BitVec 46)
  /-- BC6H mode M9: header bits after the mode field, index bits (`30_encoding.md` R79, R80; `43_bc6h.md` R163). -/
  | bc6hM9 (header : BitVec 77) (indices : BitVec 46)
  /-- BC6H mode M10: header bits after the mode field, index bits (`30_encoding.md` R79, R80; `43_bc6h.md` R163). -/
  | bc6hM10 (header : BitVec 77) (indices : BitVec 46)
  /-- BC6H mode M11: header bits after the mode field, index bits (`30_encoding.md` R79, R80; `43_bc6h.md` R163). -/
  | bc6hM11 (header : BitVec 60) (indices : BitVec 63)
  /-- BC6H mode M12: header bits after the mode field, index bits (`30_encoding.md` R79, R80; `43_bc6h.md` R163). -/
  | bc6hM12 (header : BitVec 60) (indices : BitVec 63)
  /-- BC6H mode M13: header bits after the mode field, index bits (`30_encoding.md` R79, R80; `43_bc6h.md` R163). -/
  | bc6hM13 (header : BitVec 60) (indices : BitVec 63)
  /-- BC6H mode M14: header bits after the mode field, index bits (`30_encoding.md` R79, R80; `43_bc6h.md` R163). -/
  | bc6hM14 (header : BitVec 60) (indices : BitVec 63)
  /-- BC6H reserved selector 0x13 (`43_bc6h.md` R162); the other 123 bits are ignored. -/
  | bc6hRsv13 (ignored : BitVec 123)
  /-- BC6H reserved selector 0x17 (`43_bc6h.md` R162); the other 123 bits are ignored. -/
  | bc6hRsv17 (ignored : BitVec 123)
  /-- BC6H reserved selector 0x1B (`43_bc6h.md` R162); the other 123 bits are ignored. -/
  | bc6hRsv1B (ignored : BitVec 123)
  /-- BC6H reserved selector 0x1F (`43_bc6h.md` R162); the other 123 bits are ignored. -/
  | bc6hRsv1F (ignored : BitVec 123)
  /-- BC7 mode 0, fields of `30_encoding.md` R82; endpoint `e` of a channel is its `e`-th group of bits. -/
  | bc7M0 (shape : BitVec 4) (r : BitVec 24) (g : BitVec 24) (b : BitVec 24) (pbits : BitVec 6) (primary : BitVec 45)
  /-- BC7 mode 1, fields of `30_encoding.md` R82; endpoint `e` of a channel is its `e`-th group of bits. -/
  | bc7M1 (shape : BitVec 6) (r : BitVec 24) (g : BitVec 24) (b : BitVec 24) (pbits : BitVec 2) (primary : BitVec 46)
  /-- BC7 mode 2, fields of `30_encoding.md` R82; endpoint `e` of a channel is its `e`-th group of bits. -/
  | bc7M2 (shape : BitVec 6) (r : BitVec 30) (g : BitVec 30) (b : BitVec 30) (primary : BitVec 29)
  /-- BC7 mode 3, fields of `30_encoding.md` R82; endpoint `e` of a channel is its `e`-th group of bits. -/
  | bc7M3 (shape : BitVec 6) (r : BitVec 28) (g : BitVec 28) (b : BitVec 28) (pbits : BitVec 4) (primary : BitVec 30)
  /-- BC7 mode 4, fields of `30_encoding.md` R82; endpoint `e` of a channel is its `e`-th group of bits. -/
  | bc7M4 (rot : BitVec 2) (isel : BitVec 1) (r : BitVec 10) (g : BitVec 10) (b : BitVec 10) (a : BitVec 12) (primary : BitVec 31) (secondary : BitVec 47)
  /-- BC7 mode 5, fields of `30_encoding.md` R82; endpoint `e` of a channel is its `e`-th group of bits. -/
  | bc7M5 (rot : BitVec 2) (r : BitVec 14) (g : BitVec 14) (b : BitVec 14) (a : BitVec 16) (primary : BitVec 31) (secondary : BitVec 31)
  /-- BC7 mode 6, fields of `30_encoding.md` R82; endpoint `e` of a channel is its `e`-th group of bits. -/
  | bc7M6 (r : BitVec 14) (g : BitVec 14) (b : BitVec 14) (a : BitVec 14) (pbits : BitVec 2) (primary : BitVec 63)
  /-- BC7 mode 7, fields of `30_encoding.md` R82; endpoint `e` of a channel is its `e`-th group of bits. -/
  | bc7M7 (shape : BitVec 6) (r : BitVec 20) (g : BitVec 20) (b : BitVec 20) (a : BitVec 20) (pbits : BitVec 4) (primary : BitVec 30)
  /-- BC7 reserved block, byte 0 = 0 (`44_bc7.md` R192); the other 120 bits are ignored. -/
  | bc7Rsv (ignored : BitVec 120)
  /-- FourCC `DXT1` (`30_encoding.md` R73). -/
  | fourccDxt1
  /-- FourCC `DXT2` (`30_encoding.md` R73). -/
  | fourccDxt2
  /-- FourCC `DXT3` (`30_encoding.md` R73). -/
  | fourccDxt3
  /-- FourCC `DXT4` (`30_encoding.md` R73). -/
  | fourccDxt4
  /-- FourCC `DXT5` (`30_encoding.md` R73). -/
  | fourccDxt5
  /-- FourCC `ATI1` (`30_encoding.md` R73). -/
  | fourccAti1
  /-- FourCC `BC4U` (`30_encoding.md` R73). -/
  | fourccBc4u
  /-- FourCC `BC4S` (`30_encoding.md` R73). -/
  | fourccBc4s
  /-- FourCC `ATI2` (`30_encoding.md` R73). -/
  | fourccAti2
  /-- FourCC `BC5U` (`30_encoding.md` R73). -/
  | fourccBc5u
  /-- FourCC `BC5S` (`30_encoding.md` R73). -/
  | fourccBc5s
  /-- FourCC `DX10` (`30_encoding.md` R73). -/
  | fourccDx10
  /-- Every FourCC word with no row of its own (`30_encoding.md` R73). -/
  | fourccOther (w : Word)
  /-- Enumerant 70 (`30_encoding.md` R74). -/
  | xfmt70
  /-- Enumerant 71 (`30_encoding.md` R74). -/
  | xfmt71
  /-- Enumerant 72 (`30_encoding.md` R74). -/
  | xfmt72
  /-- Enumerant 73 (`30_encoding.md` R74). -/
  | xfmt73
  /-- Enumerant 74 (`30_encoding.md` R74). -/
  | xfmt74
  /-- Enumerant 75 (`30_encoding.md` R74). -/
  | xfmt75
  /-- Enumerant 76 (`30_encoding.md` R74). -/
  | xfmt76
  /-- Enumerant 77 (`30_encoding.md` R74). -/
  | xfmt77
  /-- Enumerant 78 (`30_encoding.md` R74). -/
  | xfmt78
  /-- Enumerant 79 (`30_encoding.md` R74). -/
  | xfmt79
  /-- Enumerant 80 (`30_encoding.md` R74). -/
  | xfmt80
  /-- Enumerant 81 (`30_encoding.md` R74). -/
  | xfmt81
  /-- Enumerant 82 (`30_encoding.md` R74). -/
  | xfmt82
  /-- Enumerant 83 (`30_encoding.md` R74). -/
  | xfmt83
  /-- Enumerant 84 (`30_encoding.md` R74). -/
  | xfmt84
  /-- Enumerant 94 (`30_encoding.md` R74). -/
  | xfmt94
  /-- Enumerant 95 (`30_encoding.md` R74). -/
  | xfmt95
  /-- Enumerant 96 (`30_encoding.md` R74). -/
  | xfmt96
  /-- Enumerant 97 (`30_encoding.md` R74). -/
  | xfmt97
  /-- Enumerant 98 (`30_encoding.md` R74). -/
  | xfmt98
  /-- Enumerant 99 (`30_encoding.md` R74). -/
  | xfmt99
  /-- Every enumerant with no row of its own (`30_encoding.md` R74). -/
  | xfmtOther (w : Word)
  /-- Host command 0 (`46_resolver.md` R236). -/
  | cmdNop
  /-- Host command 1 (R237). -/
  | cmdResolve
  /-- Host command 2 (R249). -/
  | cmdLevel
  /-- Host command 3 (R250). -/
  | cmdChain
  /-- Host command 4 (R252). -/
  | cmdReset
  /-- Reserved command code 5, ignored (R254). -/
  | cmdRsv5
  /-- Reserved command code 6, ignored (R254). -/
  | cmdRsv6
  /-- Reserved command code 7, ignored (R254). -/
  | cmdRsv7
  deriving DecidableEq, Repr

end Sys2Proof
end

