-- ==== Sys2Proof/Decode.lean ====
section
/-! DEFINITION. Byte order, the instruction decoder and the encoder (`30_encoding.md`). A word carries no tag saying which
format it belongs to (R70): the decoder is told the STREAM it reads from (the command register, the FourCC field, the
enumerant field, or a block of the codec in FMT). -/

namespace Sys2Proof

/-! ### Bytes (little endian, `20_memory.md` R50) -/

/-- `LE(bytes)`: the little-endian unsigned integer of a byte list (`00_scope.md` R10). -/
def leNat : List Byte → Nat
  | [] => 0
  | b :: bs => b.toNat + 256 * leNat bs

/-- The `n` low bytes of an integer, first byte least significant (`20_memory.md` R50). -/
def leBytes : Nat → Nat → List Byte
  | 0, _ => []
  | n + 1, v => BitVec.ofNat 8 v :: leBytes n (v / 256)

/-! ### Streams -/

/-- Where a word is read from, which alone says its format (`30_encoding.md` R70). -/
inductive Stream where
  /-- the register CMD -/
  | cmd
  /-- the register PF_FOURCC -/
  | fourcc
  /-- the register X_FORMAT -/
  | xfmt
  /-- a block of the codec in FMT -/
  | block (f : Fmt)
  deriving DecidableEq, Repr

/-- `compressedBytesPerBlock` of a codec (`10_state.md` R31); FMT = NONE has no block. -/
def blockBytes : Fmt → Nat
  | .none => 0
  | .bc1 | .bc4 | .bc4s => 8
  | .bc2 | .bc3 | .bc5 | .bc5s | .bc6h | .bc7 => 16

/-- Length in bytes of one word of a stream (`30_encoding.md` R70; a command code is held in one byte). -/
def Stream.bytes : Stream → Nat
  | .cmd => 1
  | .fourcc | .xfmt => 4
  | .block f => blockBytes f

/-- Why a byte string is no instruction. -/
inductive DecodeError where
  /-- fewer bytes than the stream's word needs -/
  | tooShort (s : Stream)
  /-- a block with FMT = NONE (`10_state.md` R30) -/
  | noFormat
  deriving DecidableEq, Repr

/-! ### Dispatch codes -/

/-- The FourCC words with a row of their own (`30_encoding.md` R73). -/
def fourccRows : List (Word × Instr) :=
  [(0x31545844, .fourccDxt1),
   (0x32545844, .fourccDxt2),
   (0x33545844, .fourccDxt3),
   (0x34545844, .fourccDxt4),
   (0x35545844, .fourccDxt5),
   (0x31495441, .fourccAti1),
   (0x55344342, .fourccBc4u),
   (0x53344342, .fourccBc4s),
   (0x32495441, .fourccAti2),
   (0x55354342, .fourccBc5u),
   (0x53354342, .fourccBc5s),
   (0x30315844, .fourccDx10)]

/-- The enumerants with a row of their own (`30_encoding.md` R74). -/
def xfmtRows : List (Word × Instr) :=
  [(70, .xfmt70), (71, .xfmt71), (72, .xfmt72), (73, .xfmt73), (74, .xfmt74), (75, .xfmt75), (76, .xfmt76), (77, .xfmt77)] ++
  [(78, .xfmt78), (79, .xfmt79), (80, .xfmt80), (81, .xfmt81), (82, .xfmt82), (83, .xfmt83), (84, .xfmt84), (94, .xfmt94)] ++
  [(95, .xfmt95), (96, .xfmt96), (97, .xfmt97), (98, .xfmt98), (99, .xfmt99)]

/-- The instruction a FourCC word stands for (`30_encoding.md` R73). -/
def decodeFourcc (w : Word) : Instr := (fourccRows.lookup w).getD (.fourccOther w)

/-- The instruction an enumerant stands for (`30_encoding.md` R74). -/
def decodeXfmt (w : Word) : Instr := (xfmtRows.lookup w).getD (.xfmtOther w)

/-- The instruction a 3-bit command code stands for (`30_encoding.md` R87, `10_state.md` R27). -/
def decodeCmd (c : BitVec 3) : Instr :=
  if c = 0 then .cmdNop
  else if c = 1 then .cmdResolve
  else if c = 2 then .cmdLevel
  else if c = 3 then .cmdChain
  else if c = 4 then .cmdReset
  else if c = 5 then .cmdRsv5
  else if c = 6 then .cmdRsv6
  else .cmdRsv7

/-! ### Blocks: fields out of the block integer -/

/-- Fields of a BC1 block (`30_encoding.md` R75). -/
def splitBc1 (b : BitVec 64) : Instr := .bc1 (b.extractLsb' 0 16) (b.extractLsb' 16 16) (b.extractLsb' 32 32)

/-- Fields of a BC4 block (`30_encoding.md` R76). -/
def splitBc4 (b : BitVec 64) : Instr := .bc4 (b.extractLsb' 0 8) (b.extractLsb' 8 8) (b.extractLsb' 16 48)

/-- Fields of a BC4S block (`30_encoding.md` R76). -/
def splitBc4s (b : BitVec 64) : Instr := .bc4s (b.extractLsb' 0 8) (b.extractLsb' 8 8) (b.extractLsb' 16 48)

/-- Fields of a BC2 block (`30_encoding.md` R78). -/
def splitBc2 (b : BitVec 128) : Instr :=
  .bc2 (b.extractLsb' 0 64) (b.extractLsb' 64 16) (b.extractLsb' 80 16) (b.extractLsb' 96 32)

/-- Fields of a BC3 block (`30_encoding.md` R78). -/
def splitBc3 (b : BitVec 128) : Instr :=
  .bc3 (b.extractLsb' 0 8) (b.extractLsb' 8 8) (b.extractLsb' 16 48) (b.extractLsb' 64 16) (b.extractLsb' 80 16) (b.extractLsb' 96 32)

/-- Fields of a BC5 block (`30_encoding.md` R78). -/
def splitBc5 (b : BitVec 128) : Instr :=
  .bc5 (b.extractLsb' 0 8) (b.extractLsb' 8 8) (b.extractLsb' 16 48) (b.extractLsb' 64 8) (b.extractLsb' 72 8) (b.extractLsb' 80 48)

/-- Fields of a BC5S block (`30_encoding.md` R78). -/
def splitBc5s (b : BitVec 128) : Instr :=
  .bc5s (b.extractLsb' 0 8) (b.extractLsb' 8 8) (b.extractLsb' 16 48) (b.extractLsb' 64 8) (b.extractLsb' 72 8) (b.extractLsb' 80 48)

/-- BC6H: the mode field in two steps, two bits, then three more unless they are 0 or 1 (`30_encoding.md` R80), then header
and index bits. The sixteen values the second step can give each have a row; none falls through to a neighbour. -/
def splitBc6h (b : BitVec 128) : Instr :=
  let t := b.extractLsb' 0 2
  let m := b.extractLsb' 0 5
  if t = 0 then .bc6hM1 (b.extractLsb' 2 80) (b.extractLsb' 82 46)
  else if t = 1 then .bc6hM2 (b.extractLsb' 2 80) (b.extractLsb' 82 46)
  else if m = 0x02 then .bc6hM3 (b.extractLsb' 5 77) (b.extractLsb' 82 46)
  else if m = 0x06 then .bc6hM4 (b.extractLsb' 5 77) (b.extractLsb' 82 46)
  else if m = 0x0A then .bc6hM5 (b.extractLsb' 5 77) (b.extractLsb' 82 46)
  else if m = 0x0E then .bc6hM6 (b.extractLsb' 5 77) (b.extractLsb' 82 46)
  else if m = 0x12 then .bc6hM7 (b.extractLsb' 5 77) (b.extractLsb' 82 46)
  else if m = 0x16 then .bc6hM8 (b.extractLsb' 5 77) (b.extractLsb' 82 46)
  else if m = 0x1A then .bc6hM9 (b.extractLsb' 5 77) (b.extractLsb' 82 46)
  else if m = 0x1E then .bc6hM10 (b.extractLsb' 5 77) (b.extractLsb' 82 46)
  else if m = 0x03 then .bc6hM11 (b.extractLsb' 5 60) (b.extractLsb' 65 63)
  else if m = 0x07 then .bc6hM12 (b.extractLsb' 5 60) (b.extractLsb' 65 63)
  else if m = 0x0B then .bc6hM13 (b.extractLsb' 5 60) (b.extractLsb' 65 63)
  else if m = 0x0F then .bc6hM14 (b.extractLsb' 5 60) (b.extractLsb' 65 63)
  else if m = 0x13 then .bc6hRsv13 (b.extractLsb' 5 123)
  else if m = 0x17 then .bc6hRsv17 (b.extractLsb' 5 123)
  else if m = 0x1B then .bc6hRsv1B (b.extractLsb' 5 123)
  else .bc6hRsv1F (b.extractLsb' 5 123)

/-- BC7: the mode is unary, `m` zero bits and a one bit (`30_encoding.md` R81); the fields are those of R82. -/
def splitBc7 (b : BitVec 128) : Instr :=
  if b.extractLsb' 0 1 = 0x01 then
    .bc7M0 (b.extractLsb' 1 4) (b.extractLsb' 5 24) (b.extractLsb' 29 24) (b.extractLsb' 53 24) (b.extractLsb' 77 6) (b.extractLsb' 83 45)
  else if b.extractLsb' 0 2 = 0x02 then
    .bc7M1 (b.extractLsb' 2 6) (b.extractLsb' 8 24) (b.extractLsb' 32 24) (b.extractLsb' 56 24) (b.extractLsb' 80 2) (b.extractLsb' 82 46)
  else if b.extractLsb' 0 3 = 0x04 then
    .bc7M2 (b.extractLsb' 3 6) (b.extractLsb' 9 30) (b.extractLsb' 39 30) (b.extractLsb' 69 30) (b.extractLsb' 99 29)
  else if b.extractLsb' 0 4 = 0x08 then
    .bc7M3 (b.extractLsb' 4 6) (b.extractLsb' 10 28) (b.extractLsb' 38 28) (b.extractLsb' 66 28) (b.extractLsb' 94 4) (b.extractLsb' 98 30)
  else if b.extractLsb' 0 5 = 0x10 then
    .bc7M4 (b.extractLsb' 5 2) (b.extractLsb' 7 1) (b.extractLsb' 8 10) (b.extractLsb' 18 10) (b.extractLsb' 28 10) (b.extractLsb' 38 12) (b.extractLsb' 50 31) (b.extractLsb' 81 47)
  else if b.extractLsb' 0 6 = 0x20 then
    .bc7M5 (b.extractLsb' 6 2) (b.extractLsb' 8 14) (b.extractLsb' 22 14) (b.extractLsb' 36 14) (b.extractLsb' 50 16) (b.extractLsb' 66 31) (b.extractLsb' 97 31)
  else if b.extractLsb' 0 7 = 0x40 then
    .bc7M6 (b.extractLsb' 7 14) (b.extractLsb' 21 14) (b.extractLsb' 35 14) (b.extractLsb' 49 14) (b.extractLsb' 63 2) (b.extractLsb' 65 63)
  else if b.extractLsb' 0 8 = 0x80 then
    .bc7M7 (b.extractLsb' 8 6) (b.extractLsb' 14 20) (b.extractLsb' 34 20) (b.extractLsb' 54 20) (b.extractLsb' 74 20) (b.extractLsb' 94 4) (b.extractLsb' 98 30)
  else .bc7Rsv (b.extractLsb' 8 120)

/-- The instruction a block stands for under a codec; FMT = NONE has none (`41_block_iteration.md` R120). -/
def decodeBlk (f : Fmt) (v : Nat) : Except DecodeError Instr :=
  match f with
  | .none => .error .noFormat
  | .bc1 => .ok (splitBc1 (BitVec.ofNat 64 v))
  | .bc2 => .ok (splitBc2 (BitVec.ofNat 128 v))
  | .bc3 => .ok (splitBc3 (BitVec.ofNat 128 v))
  | .bc4 => .ok (splitBc4 (BitVec.ofNat 64 v))
  | .bc4s => .ok (splitBc4s (BitVec.ofNat 64 v))
  | .bc5 => .ok (splitBc5 (BitVec.ofNat 128 v))
  | .bc5s => .ok (splitBc5s (BitVec.ofNat 128 v))
  | .bc6h => .ok (splitBc6h (BitVec.ofNat 128 v))
  | .bc7 => .ok (splitBc7 (BitVec.ofNat 128 v))

/-! ### The decoder -/

/-- The instruction that one word of a stream, as an integer, stands for. -/
def decodeNat (st : Stream) (v : Nat) : Except DecodeError Instr :=
  match st with
  | .cmd => .ok (decodeCmd (BitVec.ofNat 3 v))
  | .fourcc => .ok (decodeFourcc (BitVec.ofNat 32 v))
  | .xfmt => .ok (decodeXfmt (BitVec.ofNat 32 v))
  | .block f => decodeBlk f v

/-- The decoder: total on any bytes; the instruction at the front of the bytes and the bytes after it. -/
def decode (st : Stream) (bs : List Byte) : Except DecodeError (Instr × List Byte) :=
  if bs.length < st.bytes then .error (.tooShort st)
  else
    match decodeNat st (leNat (bs.take st.bytes)) with
    | .ok i => .ok (i, bs.drop st.bytes)
    | .error e => .error e

/-! ### The encoder -/

/-- The block integer of BC1. -/
def asmBc1 (c0 : BitVec 16) (c1 : BitVec 16) (sel : BitVec 32) : BitVec 64 :=
  sel ++ c1 ++ c0

/-- The block integer of BC2. -/
def asmBc2 (alpha : BitVec 64) (c0 : BitVec 16) (c1 : BitVec 16) (sel : BitVec 32) : BitVec 128 :=
  sel ++ c1 ++ c0 ++ alpha

/-- The block integer of BC3. -/
def asmBc3 (e0 : BitVec 8) (e1 : BitVec 8) (asel : BitVec 48) (c0 : BitVec 16) (c1 : BitVec 16) (sel : BitVec 32) : BitVec 128 :=
  sel ++ c1 ++ c0 ++ asel ++ e1 ++ e0

/-- The block integer of BC4. -/
def asmBc4 (e0 : BitVec 8) (e1 : BitVec 8) (sel : BitVec 48) : BitVec 64 :=
  sel ++ e1 ++ e0

/-- The block integer of BC4S. -/
def asmBc4s (e0 : BitVec 8) (e1 : BitVec 8) (sel : BitVec 48) : BitVec 64 :=
  sel ++ e1 ++ e0

/-- The block integer of BC5. -/
def asmBc5 (re0 : BitVec 8) (re1 : BitVec 8) (rsel : BitVec 48) (ge0 : BitVec 8) (ge1 : BitVec 8) (gsel : BitVec 48) : BitVec 128 :=
  gsel ++ ge1 ++ ge0 ++ rsel ++ re1 ++ re0

/-- The block integer of BC5S. -/
def asmBc5s (re0 : BitVec 8) (re1 : BitVec 8) (rsel : BitVec 48) (ge0 : BitVec 8) (ge1 : BitVec 8) (gsel : BitVec 48) : BitVec 128 :=
  gsel ++ ge1 ++ ge0 ++ rsel ++ re1 ++ re0

/-- The block integer of BC6H.M1. -/
def asmBc6hM1 (header : BitVec 80) (indices : BitVec 46) : BitVec 128 :=
  indices ++ header ++ 0#2

/-- The block integer of BC6H.M2. -/
def asmBc6hM2 (header : BitVec 80) (indices : BitVec 46) : BitVec 128 :=
  indices ++ header ++ 1#2

/-- The block integer of BC6H.M3. -/
def asmBc6hM3 (header : BitVec 77) (indices : BitVec 46) : BitVec 128 :=
  indices ++ header ++ 2#5

/-- The block integer of BC6H.M4. -/
def asmBc6hM4 (header : BitVec 77) (indices : BitVec 46) : BitVec 128 :=
  indices ++ header ++ 6#5

/-- The block integer of BC6H.M5. -/
def asmBc6hM5 (header : BitVec 77) (indices : BitVec 46) : BitVec 128 :=
  indices ++ header ++ 10#5

/-- The block integer of BC6H.M6. -/
def asmBc6hM6 (header : BitVec 77) (indices : BitVec 46) : BitVec 128 :=
  indices ++ header ++ 14#5

/-- The block integer of BC6H.M7. -/
def asmBc6hM7 (header : BitVec 77) (indices : BitVec 46) : BitVec 128 :=
  indices ++ header ++ 18#5

/-- The block integer of BC6H.M8. -/
def asmBc6hM8 (header : BitVec 77) (indices : BitVec 46) : BitVec 128 :=
  indices ++ header ++ 22#5

/-- The block integer of BC6H.M9. -/
def asmBc6hM9 (header : BitVec 77) (indices : BitVec 46) : BitVec 128 :=
  indices ++ header ++ 26#5

/-- The block integer of BC6H.M10. -/
def asmBc6hM10 (header : BitVec 77) (indices : BitVec 46) : BitVec 128 :=
  indices ++ header ++ 30#5

/-- The block integer of BC6H.M11. -/
def asmBc6hM11 (header : BitVec 60) (indices : BitVec 63) : BitVec 128 :=
  indices ++ header ++ 3#5

/-- The block integer of BC6H.M12. -/
def asmBc6hM12 (header : BitVec 60) (indices : BitVec 63) : BitVec 128 :=
  indices ++ header ++ 7#5

/-- The block integer of BC6H.M13. -/
def asmBc6hM13 (header : BitVec 60) (indices : BitVec 63) : BitVec 128 :=
  indices ++ header ++ 11#5

/-- The block integer of BC6H.M14. -/
def asmBc6hM14 (header : BitVec 60) (indices : BitVec 63) : BitVec 128 :=
  indices ++ header ++ 15#5

/-- The block integer of BC6H.RSV_13. -/
def asmBc6hRsv13 (ignored : BitVec 123) : BitVec 128 :=
  ignored ++ 19#5

/-- The block integer of BC6H.RSV_17. -/
def asmBc6hRsv17 (ignored : BitVec 123) : BitVec 128 :=
  ignored ++ 23#5

/-- The block integer of BC6H.RSV_1B. -/
def asmBc6hRsv1B (ignored : BitVec 123) : BitVec 128 :=
  ignored ++ 27#5

/-- The block integer of BC6H.RSV_1F. -/
def asmBc6hRsv1F (ignored : BitVec 123) : BitVec 128 :=
  ignored ++ 31#5

/-- The block integer of BC7.M0. -/
def asmBc7M0 (shape : BitVec 4) (r : BitVec 24) (g : BitVec 24) (b : BitVec 24) (pbits : BitVec 6) (primary : BitVec 45) : BitVec 128 :=
  primary ++ pbits ++ b ++ g ++ r ++ shape ++ 1#1

/-- The block integer of BC7.M1. -/
def asmBc7M1 (shape : BitVec 6) (r : BitVec 24) (g : BitVec 24) (b : BitVec 24) (pbits : BitVec 2) (primary : BitVec 46) : BitVec 128 :=
  primary ++ pbits ++ b ++ g ++ r ++ shape ++ 2#2

/-- The block integer of BC7.M2. -/
def asmBc7M2 (shape : BitVec 6) (r : BitVec 30) (g : BitVec 30) (b : BitVec 30) (primary : BitVec 29) : BitVec 128 :=
  primary ++ b ++ g ++ r ++ shape ++ 4#3

/-- The block integer of BC7.M3. -/
def asmBc7M3 (shape : BitVec 6) (r : BitVec 28) (g : BitVec 28) (b : BitVec 28) (pbits : BitVec 4) (primary : BitVec 30) : BitVec 128 :=
  primary ++ pbits ++ b ++ g ++ r ++ shape ++ 8#4

/-- The block integer of BC7.M4. -/
def asmBc7M4 (rot : BitVec 2) (isel : BitVec 1) (r : BitVec 10) (g : BitVec 10) (b : BitVec 10) (a : BitVec 12) (primary : BitVec 31) (secondary : BitVec 47) : BitVec 128 :=
  secondary ++ primary ++ a ++ b ++ g ++ r ++ isel ++ rot ++ 16#5

/-- The block integer of BC7.M5. -/
def asmBc7M5 (rot : BitVec 2) (r : BitVec 14) (g : BitVec 14) (b : BitVec 14) (a : BitVec 16) (primary : BitVec 31) (secondary : BitVec 31) : BitVec 128 :=
  secondary ++ primary ++ a ++ b ++ g ++ r ++ rot ++ 32#6

/-- The block integer of BC7.M6. -/
def asmBc7M6 (r : BitVec 14) (g : BitVec 14) (b : BitVec 14) (a : BitVec 14) (pbits : BitVec 2) (primary : BitVec 63) : BitVec 128 :=
  primary ++ pbits ++ a ++ b ++ g ++ r ++ 64#7

/-- The block integer of BC7.M7. -/
def asmBc7M7 (shape : BitVec 6) (r : BitVec 20) (g : BitVec 20) (b : BitVec 20) (a : BitVec 20) (pbits : BitVec 4) (primary : BitVec 30) : BitVec 128 :=
  primary ++ pbits ++ a ++ b ++ g ++ r ++ shape ++ 128#8

/-- The block integer of BC7.RSV. -/
def asmBc7Rsv (ignored : BitVec 120) : BitVec 128 :=
  ignored ++ 0#8

/-- The stream an instruction is read from (`30_encoding.md` R70). -/
def Instr.stream : Instr → Stream
  | .bc1 _ _ _ => .block .bc1
  | .bc2 _ _ _ _ => .block .bc2
  | .bc3 _ _ _ _ _ _ => .block .bc3
  | .bc4 _ _ _ => .block .bc4
  | .bc4s _ _ _ => .block .bc4s
  | .bc5 _ _ _ _ _ _ => .block .bc5
  | .bc5s _ _ _ _ _ _ => .block .bc5s
  | .bc6hM1 _ _ => .block .bc6h
  | .bc6hM2 _ _ => .block .bc6h
  | .bc6hM3 _ _ => .block .bc6h
  | .bc6hM4 _ _ => .block .bc6h
  | .bc6hM5 _ _ => .block .bc6h
  | .bc6hM6 _ _ => .block .bc6h
  | .bc6hM7 _ _ => .block .bc6h
  | .bc6hM8 _ _ => .block .bc6h
  | .bc6hM9 _ _ => .block .bc6h
  | .bc6hM10 _ _ => .block .bc6h
  | .bc6hM11 _ _ => .block .bc6h
  | .bc6hM12 _ _ => .block .bc6h
  | .bc6hM13 _ _ => .block .bc6h
  | .bc6hM14 _ _ => .block .bc6h
  | .bc6hRsv13 _ => .block .bc6h
  | .bc6hRsv17 _ => .block .bc6h
  | .bc6hRsv1B _ => .block .bc6h
  | .bc6hRsv1F _ => .block .bc6h
  | .bc7M0 _ _ _ _ _ _ => .block .bc7
  | .bc7M1 _ _ _ _ _ _ => .block .bc7
  | .bc7M2 _ _ _ _ _ => .block .bc7
  | .bc7M3 _ _ _ _ _ _ => .block .bc7
  | .bc7M4 _ _ _ _ _ _ _ _ => .block .bc7
  | .bc7M5 _ _ _ _ _ _ _ => .block .bc7
  | .bc7M6 _ _ _ _ _ _ => .block .bc7
  | .bc7M7 _ _ _ _ _ _ _ => .block .bc7
  | .bc7Rsv _ => .block .bc7
  | .fourccDxt1 => .fourcc
  | .fourccDxt2 => .fourcc
  | .fourccDxt3 => .fourcc
  | .fourccDxt4 => .fourcc
  | .fourccDxt5 => .fourcc
  | .fourccAti1 => .fourcc
  | .fourccBc4u => .fourcc
  | .fourccBc4s => .fourcc
  | .fourccAti2 => .fourcc
  | .fourccBc5u => .fourcc
  | .fourccBc5s => .fourcc
  | .fourccDx10 => .fourcc
  | .fourccOther _ => .fourcc
  | .xfmt70 => .xfmt
  | .xfmt71 => .xfmt
  | .xfmt72 => .xfmt
  | .xfmt73 => .xfmt
  | .xfmt74 => .xfmt
  | .xfmt75 => .xfmt
  | .xfmt76 => .xfmt
  | .xfmt77 => .xfmt
  | .xfmt78 => .xfmt
  | .xfmt79 => .xfmt
  | .xfmt80 => .xfmt
  | .xfmt81 => .xfmt
  | .xfmt82 => .xfmt
  | .xfmt83 => .xfmt
  | .xfmt84 => .xfmt
  | .xfmt94 => .xfmt
  | .xfmt95 => .xfmt
  | .xfmt96 => .xfmt
  | .xfmt97 => .xfmt
  | .xfmt98 => .xfmt
  | .xfmt99 => .xfmt
  | .xfmtOther _ => .xfmt
  | .cmdNop => .cmd
  | .cmdResolve => .cmd
  | .cmdLevel => .cmd
  | .cmdChain => .cmd
  | .cmdReset => .cmd
  | .cmdRsv5 => .cmd
  | .cmdRsv6 => .cmd
  | .cmdRsv7 => .cmd

/-- The word of an instruction as an integer (`30_encoding.md` R73-R82, R87). -/
def Instr.word : Instr → Nat
  | .bc1 c0 c1 sel => (asmBc1 c0 c1 sel).toNat
  | .bc2 alpha c0 c1 sel => (asmBc2 alpha c0 c1 sel).toNat
  | .bc3 e0 e1 asel c0 c1 sel => (asmBc3 e0 e1 asel c0 c1 sel).toNat
  | .bc4 e0 e1 sel => (asmBc4 e0 e1 sel).toNat
  | .bc4s e0 e1 sel => (asmBc4s e0 e1 sel).toNat
  | .bc5 re0 re1 rsel ge0 ge1 gsel => (asmBc5 re0 re1 rsel ge0 ge1 gsel).toNat
  | .bc5s re0 re1 rsel ge0 ge1 gsel => (asmBc5s re0 re1 rsel ge0 ge1 gsel).toNat
  | .bc6hM1 header indices => (asmBc6hM1 header indices).toNat
  | .bc6hM2 header indices => (asmBc6hM2 header indices).toNat
  | .bc6hM3 header indices => (asmBc6hM3 header indices).toNat
  | .bc6hM4 header indices => (asmBc6hM4 header indices).toNat
  | .bc6hM5 header indices => (asmBc6hM5 header indices).toNat
  | .bc6hM6 header indices => (asmBc6hM6 header indices).toNat
  | .bc6hM7 header indices => (asmBc6hM7 header indices).toNat
  | .bc6hM8 header indices => (asmBc6hM8 header indices).toNat
  | .bc6hM9 header indices => (asmBc6hM9 header indices).toNat
  | .bc6hM10 header indices => (asmBc6hM10 header indices).toNat
  | .bc6hM11 header indices => (asmBc6hM11 header indices).toNat
  | .bc6hM12 header indices => (asmBc6hM12 header indices).toNat
  | .bc6hM13 header indices => (asmBc6hM13 header indices).toNat
  | .bc6hM14 header indices => (asmBc6hM14 header indices).toNat
  | .bc6hRsv13 ignored => (asmBc6hRsv13 ignored).toNat
  | .bc6hRsv17 ignored => (asmBc6hRsv17 ignored).toNat
  | .bc6hRsv1B ignored => (asmBc6hRsv1B ignored).toNat
  | .bc6hRsv1F ignored => (asmBc6hRsv1F ignored).toNat
  | .bc7M0 shape r g b pbits primary => (asmBc7M0 shape r g b pbits primary).toNat
  | .bc7M1 shape r g b pbits primary => (asmBc7M1 shape r g b pbits primary).toNat
  | .bc7M2 shape r g b primary => (asmBc7M2 shape r g b primary).toNat
  | .bc7M3 shape r g b pbits primary => (asmBc7M3 shape r g b pbits primary).toNat
  | .bc7M4 rot isel r g b a primary secondary => (asmBc7M4 rot isel r g b a primary secondary).toNat
  | .bc7M5 rot r g b a primary secondary => (asmBc7M5 rot r g b a primary secondary).toNat
  | .bc7M6 r g b a pbits primary => (asmBc7M6 r g b a pbits primary).toNat
  | .bc7M7 shape r g b a pbits primary => (asmBc7M7 shape r g b a pbits primary).toNat
  | .bc7Rsv ignored => (asmBc7Rsv ignored).toNat
  | .fourccDxt1 => 0x31545844
  | .fourccDxt2 => 0x32545844
  | .fourccDxt3 => 0x33545844
  | .fourccDxt4 => 0x34545844
  | .fourccDxt5 => 0x35545844
  | .fourccAti1 => 0x31495441
  | .fourccBc4u => 0x55344342
  | .fourccBc4s => 0x53344342
  | .fourccAti2 => 0x32495441
  | .fourccBc5u => 0x55354342
  | .fourccBc5s => 0x53354342
  | .fourccDx10 => 0x30315844
  | .fourccOther w => w.toNat
  | .xfmt70 => 70
  | .xfmt71 => 71
  | .xfmt72 => 72
  | .xfmt73 => 73
  | .xfmt74 => 74
  | .xfmt75 => 75
  | .xfmt76 => 76
  | .xfmt77 => 77
  | .xfmt78 => 78
  | .xfmt79 => 79
  | .xfmt80 => 80
  | .xfmt81 => 81
  | .xfmt82 => 82
  | .xfmt83 => 83
  | .xfmt84 => 84
  | .xfmt94 => 94
  | .xfmt95 => 95
  | .xfmt96 => 96
  | .xfmt97 => 97
  | .xfmt98 => 98
  | .xfmt99 => 99
  | .xfmtOther w => w.toNat
  | .cmdNop => 0
  | .cmdResolve => 1
  | .cmdLevel => 2
  | .cmdChain => 3
  | .cmdReset => 4
  | .cmdRsv5 => 5
  | .cmdRsv6 => 6
  | .cmdRsv7 => 7

/-- The encoder: the bytes of an instruction as its stream holds them. -/
def encode (i : Instr) : List Byte := leBytes i.stream.bytes i.word

/-! ### The opcode table's numbering of words -/

/-- The stream a table word is read from. The table's words do not say it (`30_encoding.md` R70), and words of different
formats coincide: log entry 12 says which stream this takes. DESIGN CHOICE, safe. -/
def tableStream (nbits w : Nat) : Stream :=
  if nbits ≤ 8 then
    if w < 8 then .cmd
    else if w ∈ [0x08, 0x10, 0x20, 0x40, 0x80] then .block .bc7
    else .block .bc6h
  else if nbits ≤ 32 then (if w < 256 then .xfmt else .fourcc)
  else if nbits ≤ 64 then .block .bc1
  else .block .bc2

/-- The instruction this decoder reads from a word numbered as the opcode table numbers it (bits above `nbits` zero). -/
def decodeTableWord (nbits w : Nat) : Option Instr :=
  match decode (tableStream nbits w) (leBytes 16 (w % 2 ^ nbits)) with
  | .ok (i, _) => some i
  | .error _ => none

end Sys2Proof
end

