-- ==== Sys2Proof/Machine/State.lean ====
section
/-! DEFINITION. The state of the BCDU (`10_state.md`), as plain data, and its value after power-up (`70_reset_and_hazards.md`
R291). Two fields are the model's own: `phase` (log entry 2) and `host` (log entry 1). -/

namespace Sys2Proof.Machine

/-! ### Why a step can stop -/

/-- Model faults. None is a fault class of the spec: those are next states (`60_exceptions.md` R270). Each is unreachable
from a state that meets `Safety.Inv`; all are safe (the model stops where the spec has no such state). Log entry 14. -/
inductive Fault where
  /-- `MemRead` outside `0 .. SRC_LEN-1`: raised by a header read or a block fetch (`20_memory.md` R52 asks for a model
  fault, `93_implementation_defined.md` U12). Safe. -/
  | memReadOutOfRange
  /-- A store or the trim outside PAD, or with PAD not allocated: raised by a block's tile store and by the end of a level
  (`60_exceptions.md` R275: "no write leaves PAD"). Safe. -/
  | padOutOfRange
  /-- A level with FMT = NONE: raised by the start of a level and by a block fetch (`10_state.md` R30,
  `41_block_iteration.md` R110). Safe. -/
  | noFormat
  /-- A host command met as an instruction inside a command: no stream inside a command holds one. Safe. -/
  | nestedCommand
  deriving DecidableEq, Repr

/-- Model refusals. -/
inductive Refusal where
  /-- An instruction with no meaning yet (raised by `exec` alone). Safe. -/
  | notModelled (mnemonic : String)
  /-- The host places a byte at or beyond `SRC_CAP`, or writes `SRC_LEN` above it (`93_implementation_defined.md` U11:
  refuse). Raised by a host write only; never with the default unbounded `SRC_CAP`. Safe. -/
  | srcOverCapacity
  deriving DecidableEq, Repr

/-! ### Registers -/

/-- Register STATE (`10_state.md` R27); the code 3 never occurs. -/
inductive UnitState where
  | idle | ready | faulted
  deriving DecidableEq, Repr

/-- Register FAULT: the fatal classes of `60_exceptions.md` R266. -/
inductive FaultClass where
  | none | malformedContainer | unsupportedFormat | truncatedStream
  deriving DecidableEq, Repr

/-- The header registers 16-35 (`10_state.md` R28), 32 bits each. -/
structure Header where
  magic : Word := 0
  size : Word := 0
  flags : Word := 0
  height : Word := 0
  width : Word := 0
  pitch : Word := 0
  depth : Word := 0
  mips : Word := 0
  pfSize : Word := 0
  pfFlags : Word := 0
  pfFourcc : Word := 0
  pfBitcount : Word := 0
  pfRmask : Word := 0
  pfGmask : Word := 0
  pfBmask : Word := 0
  pfAmask : Word := 0
  caps : Word := 0
  caps2 : Word := 0
  caps3 : Word := 0
  caps4 : Word := 0
  deriving DecidableEq, Repr

/-- The extended header registers 41-45 (`10_state.md` R29). -/
structure ExtHeader where
  format : Word := 0
  dim : Word := 0
  misc : Word := 0
  array : Word := 0
  misc2 : Word := 0
  deriving DecidableEq, Repr

/-- One record of OUTQ (`10_state.md` R23). -/
structure LevelRecord where
  level : Word
  width : Word
  height : Word
  fmt : Fmt
  bytes : List Byte
  deriving DecidableEq, Repr

/-- The BlockFormatDescriptor, a constant function of FMT (`10_state.md` R31). -/
structure Descriptor where
  bitsPerPixel : Nat
  outputBytesPerPixel : Nat
  blockSide : Nat
  compressedBytesPerBlock : Nat
  isCompressed : Bool
  deriving DecidableEq, Repr

/-- A decoded pixel: its channel bytes in OUT order (`00_scope.md` R12, `10_state.md` R34). -/
abbrev Pixel := List Byte

/-! ### Per-block scratch -/

/-- Scratch of the fixed-gradient codecs (`10_state.md` R35). -/
structure GradScratch where
  c0 : BitVec 16 := 0
  c1 : BitVec 16 := 0
  palc : List (Rgba Byte) := List.replicate 4 ⟨0, 0, 0, 0⟩
  e0 : Int := 0
  e1 : Int := 0
  palg : List Byte := List.replicate 8 0
  sel32 : BitVec 32 := 0
  sel48 : BitVec 48 := 0
  alpha64 : BitVec 64 := 0
  deriving DecidableEq, Repr

/-- The four BC6H endpoints W, X, Y, Z (`10_state.md` R36, `00_scope.md` glossary). -/
structure Endpoints (α : Type) where
  w : Rgb α
  x : Rgb α
  y : Rgb α
  z : Rgb α
  deriving DecidableEq, Repr

/-- Scratch of BC6H (`10_state.md` R36); EP6 as 17-bit registers. -/
structure Bc6hScratch where
  m6 : BitVec 5 := 0
  shape : BitVec 5 := 0
  ep6 : Endpoints (BitVec 17) := ⟨⟨0, 0, 0⟩, ⟨0, 0, 0⟩, ⟨0, 0, 0⟩, ⟨0, 0, 0⟩⟩
  idx : BitVec 4 := 0
  deriving DecidableEq, Repr

/-- Scratch of BC7 (`10_state.md` R37); M7 is 0..8. -/
structure Bc7Scratch where
  m7 : Nat := 0
  shape : BitVec 6 := 0
  rot : BitVec 2 := 0
  isel : BitVec 1 := 0
  ep7 : List (Rgba Byte) := List.replicate 6 ⟨0, 0, 0, 0⟩
  pb : List (BitVec 1) := List.replicate 6 0
  i1 : List (BitVec 4) := List.replicate 16 0
  i2 : List (BitVec 3) := List.replicate 16 0
  deriving DecidableEq, Repr

/-- The per-block scratch (`10_state.md` R33-R37) and BITPOS (R25). What it holds between blocks: log entry 6. -/
structure Scratch where
  bitpos : Nat := 0
  blk : List Byte := List.replicate 16 0
  px : List Pixel := List.replicate 16 [0, 0, 0, 0]
  grad : GradScratch := {}
  bc6h : Bc6hScratch := {}
  bc7 : Bc7Scratch := {}
  deriving DecidableEq, Repr

/-- The sequencer registers (`10_state.md` R32). -/
structure Sequencer where
  bwide : Nat := 0
  bhigh : Nat := 0
  bx : Nat := 0
  by_ : Nat := 0
  outOff : Nat := 0
  stride : Nat := 0
  rowStart : Nat := 0
  deriving DecidableEq, Repr

/-! ### The model's own fields -/

/-- What the unit fetches next (the model's own, log entry 2). -/
inductive Phase where
  /-- no command executes: the next pending host action -/
  | waiting
  /-- inside RESOLVE, at the FourCC dispatch (`46_resolver.md` R245) -/
  | fourcc
  /-- inside RESOLVE, at the enumerant dispatch (R246) -/
  | xfmt
  /-- inside LEVEL, at a block (`41_block_iteration.md` R114) -/
  | level
  /-- inside CHAIN, at a block (`46_resolver.md` R250) -/
  | chain
  deriving DecidableEq, Repr

/-- An action of the host that changes something (`46_resolver.md` R255; the model's own shape, log entry 1). -/
inductive HostAction where
  /-- place bytes in SRC from an address -/
  | writeSrc (addr : Nat) (bytes : List Byte)
  /-- write a register by its number (`10_state.md` R27-R30); number 0 is CMD and starts a command -/
  | writeReg (no : Nat) (value : Nat)
  deriving DecidableEq, Repr

/-! ### The state -/

/-- The state of the machine. -/
structure State where
  /-- SRC: the listed bytes, by address (`10_state.md` R22) -/
  src : List Host.Cell
  /-- OUTQ (R23) -/
  outq : List LevelRecord
  /-- PAD, none = not allocated (R26) -/
  pad : Option (List Byte)
  /-- register 0 (R27) -/
  cmd : BitVec 3
  /-- register 1, STATE -/
  unit : UnitState
  /-- register 2, FAULT -/
  fault : FaultClass
  /-- register 3, FAULT_INFO -/
  faultInfo : Word
  /-- register 4, BLKERR -/
  blkErr : Bool
  /-- register 5, SRC_LEN -/
  srcLen : Nat
  /-- register 6, SRCOFF, the program counter (R24) -/
  srcOff : Nat
  /-- register 7, LW -/
  lw : Word
  /-- register 8, LH -/
  lh : Word
  /-- register 9, LEVEL -/
  level : Word
  /-- registers 16-35 (R28) -/
  hdr : Header
  /-- registers 40-45 (R29), none = X_PRESENT is 0 (log entry 10) -/
  ext : Option ExtHeader
  /-- register 48, FMT (R30; after TRUNCATED_STREAM: log entry 5) -/
  fmt : Fmt
  /-- the sequencer registers (R32) -/
  seq : Sequencer
  /-- the per-block scratch (R33-R37) and BITPOS (R25) -/
  scratch : Scratch
  /-- the model's own: what the unit fetches next (log entry 2) -/
  phase : Phase
  /-- the model's own: the host's pending actions, oldest first (log entry 1) -/
  host : List HostAction
  deriving DecidableEq, Repr

/-- The machine right after power-up (`70_reset_and_hazards.md` R290, R291). -/
def State.reset : State where
  src := []
  outq := []
  pad := none
  cmd := 0
  unit := .idle
  fault := .none
  faultInfo := 0
  blkErr := false
  srcLen := 0
  srcOff := 0
  lw := 0
  lh := 0
  level := 0
  hdr := {}
  ext := none
  fmt := .none
  seq := {}
  scratch := {}
  phase := .waiting
  host := []

end Sys2Proof.Machine
end

