-- ==== Sys2Proof/Machine/Flags.lean ====
section
/-! DEFINITION. The flags. The BCDU has no condition codes; its one flag is the sticky bit BLKERR (`10_state.md` R39),
set by a block error (`60_exceptions.md` R274), cleared by RESOLVE and RESET. -/

namespace Sys2Proof.Machine

/-- BLKERR after a block that ended in a block error or not: sticky (`10_state.md` R27, `60_exceptions.md` R274). -/
def stickyBlkErr (old blockErr : Bool) : Bool := old || blockErr

end Sys2Proof.Machine
end

