-- ==== Sys2Proof/Machine/Params.lean ====
section
/-! DEFINITION. The parameters the model runs with: the defaults of `00_scope.md` R6 (log entry 11), and EXPAND565 with its
5-6-5 split. -/

namespace Sys2Proof.Machine

/-- Expansion of a 5-bit field to 8 bits (`42_fixed_gradient.md` R128). -/
def exp5 (v : Nat) : Nat :=
  let t := v * 255 + 16
  (t / 32 + t) / 32

/-- Expansion of a 6-bit field to 8 bits (`42_fixed_gradient.md` R128). -/
def exp6 (v : Nat) : Nat :=
  let t := v * 255 + 32
  (t / 64 + t) / 64

/-- The fields r5, g6, b5 of a packed 5-6-5 word (`42_fixed_gradient.md` R127). -/
def split565 (c : BitVec 16) : Rgb Nat :=
  ⟨(c.extractLsb' 11 5).toNat, (c.extractLsb' 5 6).toNat, (c.extractLsb' 0 5).toNat⟩

/-- The default EXPAND565 (`42_fixed_gradient.md` R128). -/
def defaultExpand565 (c : BitVec 16) : Rgb Byte :=
  let f := split565 c
  ⟨BitVec.ofNat 8 (exp5 f.r), BitVec.ofNat 8 (exp6 f.g), BitVec.ofNat 8 (exp5 f.b)⟩

/-- The parameters of this unit: every default of `00_scope.md` R6. -/
def config : Config where
  srcCap := none
  offBits := none
  expand565 := defaultExpand565
  bc5Blue := 0
  bc6hErr := ⟨0, 0, 0, 255⟩
  bc7Err := ⟨0, 0, 0, 0⟩
  checkSizes := true

end Sys2Proof.Machine
end

