-- ==== Sys2Proof/Machine/Tables.lean ====
section
/-! DEFINITION. The read-only tables (`45_shared_tables.md`, `43_bc6h.md` R163, `44_bc7.md` R191), as replaceable constants
(`92_eei_decisions.md` D25). The spec marks their contents as general knowledge; the model takes them as printed there
(log entry 23). -/

namespace Sys2Proof.Machine

/-! ### Partitions, fix-up pixels, weights -/

/-- Two-region partition table: hexadecimal digit `i` of row `s`, from the left, is the region of pixel `i` of shape `s`
(`45_shared_tables.md` R222). -/
def partition2 : List Nat :=
  [0x0011001100110011, 0x0001000100010001, 0x0111011101110111, 0x0001001100110111] ++
  [0x0000000100010011, 0x0011011101111111, 0x0001001101111111, 0x0000000100110111] ++
  [0x0000000000010011, 0x0011011111111111, 0x0000000101111111, 0x0000000000010111] ++
  [0x0001011111111111, 0x0000000011111111, 0x0000111111111111, 0x0000000000001111] ++
  [0x0000100011101111, 0x0111000100000000, 0x0000000010001110, 0x0111001100010000] ++
  [0x0011000100000000, 0x0000100011001110, 0x0000000010001100, 0x0111001100110001] ++
  [0x0011000100010000, 0x0000100010001100, 0x0110011001100110, 0x0011011001101100] ++
  [0x0001011111101000, 0x0000111111110000, 0x0111000110001110, 0x0011100110011100] ++
  [0x0101010101010101, 0x0000111100001111, 0x0101101001011010, 0x0011001111001100] ++
  [0x0011110000111100, 0x0101010110101010, 0x0110100101101001, 0x0101101010100101] ++
  [0x0111001111001110, 0x0001001111001000, 0x0011001001001100, 0x0011101111011100] ++
  [0x0110100110010110, 0x0011110011000011, 0x0110011010011001, 0x0000011001100000] ++
  [0x0100111001000000, 0x0010011100100000, 0x0000001001110010, 0x0000010011100100] ++
  [0x0110110010010011, 0x0011011011001001, 0x0110001110011100, 0x0011100111000110] ++
  [0x0110110011001001, 0x0110001100111001, 0x0111111010000001, 0x0001100011100111] ++
  [0x0000111100110011, 0x0011001111110000, 0x0010001011101110, 0x0100010001110111]

/-- Three-region partition table, same notation (`45_shared_tables.md` R223). -/
def partition3 : List Nat :=
  [0x0011001102212222, 0x0001001122112221, 0x0000200122112211, 0x0222002200110111] ++
  [0x0000000011221122, 0x0011001100220022, 0x0022002211111111, 0x0011001122112211] ++
  [0x0000000011112222, 0x0000111111112222, 0x0000111122222222, 0x0012001200120012] ++
  [0x0112011201120112, 0x0122012201220122, 0x0011011211221222, 0x0011200122002220] ++
  [0x0001001101121122, 0x0111001120012200, 0x0000112211221122, 0x0022002200221111] ++
  [0x0111011102220222, 0x0001000122212221, 0x0000001101220122, 0x0000110022102210] ++
  [0x0122012200110000, 0x0012001211222222, 0x0110122112210110, 0x0000011012211221] ++
  [0x0022110211020022, 0x0110011020022222, 0x0011012201220011, 0x0000200022112221] ++
  [0x0000000211221222, 0x0222002200120011, 0x0011001200220222, 0x0120012001200120] ++
  [0x0000111122220000, 0x0120120120120120, 0x0120201212010120, 0x0011220011220011] ++
  [0x0011112222000011, 0x0101010122222222, 0x0000000021212121, 0x0022112200221122] ++
  [0x0022001100220011, 0x0220122102201221, 0x0101222222220101, 0x0000212121212121] ++
  [0x0101010101012222, 0x0222011102220111, 0x0002111200021112, 0x0000211221122112] ++
  [0x0222011101110222, 0x0002111211120002, 0x0110011001102222, 0x0000000021122112] ++
  [0x0110011022222222, 0x0022001100110022, 0x0022112211220022, 0x0000000000002112] ++
  [0x0002000100020001, 0x0222122202221222, 0x0101222222222222, 0x0111201122012220]

/-- Fix-up pixel of region 1 of the two-region shapes (`45_shared_tables.md` R225). -/
def fixA2 : List Nat :=
  [15, 15, 15, 15, 15, 15, 15, 15, 15, 15, 15, 15, 15, 15, 15, 15] ++
  [15, 2, 8, 2, 2, 8, 8, 15, 2, 8, 2, 2, 8, 8, 2, 2] ++
  [15, 15, 6, 8, 2, 8, 15, 15, 2, 8, 2, 2, 2, 15, 15, 6] ++
  [6, 2, 6, 8, 15, 15, 2, 2, 15, 15, 15, 15, 15, 2, 2, 15]

/-- Fix-up pixel of region 1 of the three-region shapes (`45_shared_tables.md` R226). -/
def fixA3a : List Nat :=
  [3, 3, 15, 15, 8, 3, 15, 15, 8, 8, 6, 6, 6, 5, 3, 3] ++
  [3, 3, 8, 15, 3, 3, 6, 10, 5, 8, 8, 6, 8, 5, 15, 15] ++
  [8, 15, 3, 5, 6, 10, 8, 15, 15, 3, 15, 5, 15, 15, 15, 15] ++
  [3, 15, 5, 5, 5, 8, 5, 10, 5, 10, 8, 13, 15, 12, 3, 3]

/-- Fix-up pixel of region 2 of the three-region shapes (`45_shared_tables.md` R226). -/
def fixA3b : List Nat :=
  [15, 8, 8, 3, 15, 15, 3, 8, 15, 15, 15, 15, 15, 15, 15, 8] ++
  [15, 8, 15, 3, 15, 8, 15, 8, 3, 15, 6, 10, 15, 15, 10, 8] ++
  [15, 3, 15, 10, 10, 8, 9, 10, 6, 15, 8, 15, 3, 6, 6, 8] ++
  [15, 3, 15, 15, 15, 15, 15, 15, 15, 15, 15, 15, 3, 15, 15, 8]

/-- Digit `i` (0 = leftmost of 16) of a partition row. -/
def partitionDigit (row i : Nat) : Nat := row / 16 ^ (15 - i) % 16

/-- `REGION(n, s, i)`: the region of pixel `i` for region count `n` and shape `s` (`45_shared_tables.md` R221). -/
def region (n s i : Nat) : Nat :=
  if n = 1 then 0
  else if n = 2 then partitionDigit (partition2.getD s 0) i
  else partitionDigit (partition3.getD s 0) i

/-- `FIX(n, s)`: the fix-up pixels, one per region (`45_shared_tables.md` R224). -/
def fixPixels (n s : Nat) : List Nat :=
  if n = 1 then [0]
  else if n = 2 then [0, fixA2.getD s 0]
  else [0, fixA3a.getD s 0, fixA3b.getD s 0]

/-- `isFixup(n, s, i)` (`45_shared_tables.md` R227). -/
def isFixup (n s i : Nat) : Bool := i ∈ fixPixels n s

/-- `W(b)`: the weight table of index width `b` (`45_shared_tables.md` R228). -/
def weights (b : Nat) : List Nat :=
  if b = 2 then [0, 21, 43, 64]
  else if b = 3 then [0, 9, 18, 27, 37, 46, 55, 64]
  else [0, 4, 9, 13, 17, 21, 26, 30, 34, 38, 43, 47, 51, 55, 60, 64]

/-- The weight of an index of width `b`. -/
def weight (b idx : Nat) : Nat := (weights b).getD idx 0

/-- `INTERP(a, b, w)` (`45_shared_tables.md` R229). -/
def interp (a b w : Nat) : Nat := (a * (64 - w) + b * w + 32) / 64

/-! ### BC6H modes -/

/-- An endpoint of BC6H: W, X, Y, Z are numbers 0, 1, 2, 3 in layout strings (`00_scope.md` glossary). -/
inductive EndpointName where
  | w | x | y | z
  deriving DecidableEq, Repr

/-- A colour channel. -/
inductive Channel where
  | r | g | b
  deriving DecidableEq, Repr

/-- What a header bit of BC6H belongs to (`43_bc6h.md` R163); `unused` is a bit read and dropped (`90_conflicts.md` C14). -/
inductive HdrField where
  | mode | shape | unused
  | ep (e : EndpointName) (c : Channel)
  deriving DecidableEq, Repr

/-- A run of header bits: consecutive block positions hold bits `first` to `last` of a field, descending if `last < first`
(`43_bc6h.md` R163). -/
structure Run where
  field : HdrField
  first : Nat
  last : Nat
  deriving DecidableEq, Repr

/-- The field bits of a run, in block order. -/
def Run.bits (x : Run) : List (HdrField × Nat) :=
  if x.first ≤ x.last then (List.range (x.last - x.first + 1)).map fun k => (x.field, x.first + k)
  else (List.range (x.first - x.last + 1)).map fun k => (x.field, x.first - k)

/-- The descriptor of a BC6H mode (`43_bc6h.md` R163). -/
structure Mode6 where
  /-- the selector M6 -/
  sel : Nat
  /-- width of the mode field, 2 or 5 (`30_encoding.md` R80) -/
  modeBits : Nat
  regions : Nat
  transformed : Bool
  /-- precision of W and of every endpoint after the transform -/
  bp : Nat
  /-- stored width of the red, green, blue fields of X, Y, Z -/
  dp : Rgb Nat
  /-- header length HL -/
  hl : Nat
  layout : List Run
  deriving DecidableEq, Repr

/-- Index width `ib`: 3 for two regions, 4 for one (`43_bc6h.md` R168). -/
def Mode6.ib (d : Mode6) : Nat := if d.regions = 2 then 3 else 4

/-- The field bit at every header position, position 0 first. -/
def Mode6.fieldBits (d : Mode6) : List (HdrField × Nat) := d.layout.flatMap Run.bits

namespace Layout

abbrev r0 : HdrField := .ep .w .r
abbrev g0 : HdrField := .ep .w .g
abbrev b0 : HdrField := .ep .w .b
abbrev r1 : HdrField := .ep .x .r
abbrev g1 : HdrField := .ep .x .g
abbrev b1 : HdrField := .ep .x .b
abbrev r2 : HdrField := .ep .y .r
abbrev g2 : HdrField := .ep .y .g
abbrev b2 : HdrField := .ep .y .b
abbrev r3 : HdrField := .ep .z .r
abbrev g3 : HdrField := .ep .z .g
abbrev b3 : HdrField := .ep .z .b

end Layout

open Layout

/-- BC6H mode M1 (`43_bc6h.md` R163). -/
def mode6M1 : Mode6 :=
  { sel := 0x00, modeBits := 2, regions := 2, transformed := true, bp := 10, dp := ⟨5, 5, 5⟩, hl := 82,
    layout := [
      ⟨.mode, 0, 1⟩, ⟨g2, 4, 4⟩, ⟨b2, 4, 4⟩, ⟨b3, 4, 4⟩, ⟨r0, 0, 9⟩, ⟨g0, 0, 9⟩, ⟨b0, 0, 9⟩, ⟨r1, 0, 4⟩,
      ⟨g3, 4, 4⟩, ⟨g2, 0, 3⟩, ⟨g1, 0, 4⟩, ⟨b3, 0, 0⟩, ⟨g3, 0, 3⟩, ⟨b1, 0, 4⟩, ⟨b3, 1, 1⟩, ⟨b2, 0, 3⟩,
      ⟨r2, 0, 4⟩, ⟨b3, 2, 2⟩, ⟨r3, 0, 4⟩, ⟨b3, 3, 3⟩, ⟨.shape, 0, 4⟩] }

/-- BC6H mode M2 (`43_bc6h.md` R163). -/
def mode6M2 : Mode6 :=
  { sel := 0x01, modeBits := 2, regions := 2, transformed := true, bp := 7, dp := ⟨6, 6, 6⟩, hl := 82,
    layout := [
      ⟨.mode, 0, 1⟩, ⟨g2, 5, 5⟩, ⟨g3, 4, 4⟩, ⟨g3, 5, 5⟩, ⟨r0, 0, 6⟩, ⟨b3, 0, 0⟩, ⟨b3, 1, 1⟩, ⟨b2, 4, 4⟩,
      ⟨g0, 0, 6⟩, ⟨b2, 5, 5⟩, ⟨b3, 2, 2⟩, ⟨g2, 4, 4⟩, ⟨b0, 0, 6⟩, ⟨b3, 3, 3⟩, ⟨b3, 5, 5⟩, ⟨b3, 4, 4⟩,
      ⟨r1, 0, 5⟩, ⟨g2, 0, 3⟩, ⟨g1, 0, 5⟩, ⟨g3, 0, 3⟩, ⟨b1, 0, 5⟩, ⟨b2, 0, 3⟩, ⟨r2, 0, 5⟩, ⟨r3, 0, 5⟩,
      ⟨.shape, 0, 4⟩] }

/-- BC6H mode M3 (`43_bc6h.md` R163). -/
def mode6M3 : Mode6 :=
  { sel := 0x02, modeBits := 5, regions := 2, transformed := true, bp := 11, dp := ⟨5, 4, 4⟩, hl := 82,
    layout := [
      ⟨.mode, 0, 4⟩, ⟨r0, 0, 9⟩, ⟨g0, 0, 9⟩, ⟨b0, 0, 9⟩, ⟨r1, 0, 4⟩, ⟨r0, 10, 10⟩, ⟨g2, 0, 3⟩, ⟨g1, 0, 3⟩,
      ⟨g0, 10, 10⟩, ⟨b3, 0, 0⟩, ⟨g3, 0, 3⟩, ⟨b1, 0, 3⟩, ⟨b0, 10, 10⟩, ⟨b3, 1, 1⟩, ⟨b2, 0, 3⟩, ⟨r2, 0, 4⟩,
      ⟨b3, 2, 2⟩, ⟨r3, 0, 4⟩, ⟨b3, 3, 3⟩, ⟨.shape, 0, 4⟩] }

/-- BC6H mode M4 (`43_bc6h.md` R163). -/
def mode6M4 : Mode6 :=
  { sel := 0x06, modeBits := 5, regions := 2, transformed := true, bp := 11, dp := ⟨4, 5, 4⟩, hl := 82,
    layout := [
      ⟨.mode, 0, 4⟩, ⟨r0, 0, 9⟩, ⟨g0, 0, 9⟩, ⟨b0, 0, 9⟩, ⟨r1, 0, 3⟩, ⟨r0, 10, 10⟩, ⟨g3, 4, 4⟩, ⟨g2, 0, 3⟩,
      ⟨g1, 0, 4⟩, ⟨g0, 10, 10⟩, ⟨g3, 0, 3⟩, ⟨b1, 0, 3⟩, ⟨b0, 10, 10⟩, ⟨b3, 1, 1⟩, ⟨b2, 0, 3⟩, ⟨r2, 0, 3⟩,
      ⟨b3, 0, 0⟩, ⟨b3, 2, 2⟩, ⟨r3, 0, 3⟩, ⟨g2, 4, 4⟩, ⟨b3, 3, 3⟩, ⟨.shape, 0, 4⟩] }

/-- BC6H mode M5 (`43_bc6h.md` R163). -/
def mode6M5 : Mode6 :=
  { sel := 0x0A, modeBits := 5, regions := 2, transformed := true, bp := 11, dp := ⟨4, 4, 5⟩, hl := 82,
    layout := [
      ⟨.mode, 0, 4⟩, ⟨r0, 0, 9⟩, ⟨g0, 0, 9⟩, ⟨b0, 0, 9⟩, ⟨r1, 0, 3⟩, ⟨r0, 10, 10⟩, ⟨b2, 4, 4⟩, ⟨g2, 0, 3⟩,
      ⟨g1, 0, 3⟩, ⟨g0, 10, 10⟩, ⟨b3, 0, 0⟩, ⟨g3, 0, 3⟩, ⟨b1, 0, 4⟩, ⟨b0, 10, 10⟩, ⟨b2, 0, 3⟩, ⟨r2, 0, 3⟩,
      ⟨b3, 1, 1⟩, ⟨b3, 2, 2⟩, ⟨r3, 0, 3⟩, ⟨b3, 4, 4⟩, ⟨b3, 3, 3⟩, ⟨.shape, 0, 4⟩] }

/-- BC6H mode M6 (`43_bc6h.md` R163). -/
def mode6M6 : Mode6 :=
  { sel := 0x0E, modeBits := 5, regions := 2, transformed := true, bp := 9, dp := ⟨5, 5, 5⟩, hl := 82,
    layout := [
      ⟨.mode, 0, 4⟩, ⟨r0, 0, 8⟩, ⟨b2, 4, 4⟩, ⟨g0, 0, 8⟩, ⟨g2, 4, 4⟩, ⟨b0, 0, 8⟩, ⟨b3, 4, 4⟩, ⟨r1, 0, 4⟩,
      ⟨g3, 4, 4⟩, ⟨g2, 0, 3⟩, ⟨g1, 0, 4⟩, ⟨b3, 0, 0⟩, ⟨g3, 0, 3⟩, ⟨b1, 0, 4⟩, ⟨b3, 1, 1⟩, ⟨b2, 0, 3⟩,
      ⟨r2, 0, 4⟩, ⟨b3, 2, 2⟩, ⟨r3, 0, 4⟩, ⟨b3, 3, 3⟩, ⟨.shape, 0, 4⟩] }

/-- BC6H mode M7 (`43_bc6h.md` R163). -/
def mode6M7 : Mode6 :=
  { sel := 0x12, modeBits := 5, regions := 2, transformed := true, bp := 8, dp := ⟨6, 5, 5⟩, hl := 82,
    layout := [
      ⟨.mode, 0, 4⟩, ⟨r0, 0, 7⟩, ⟨g3, 4, 4⟩, ⟨b2, 4, 4⟩, ⟨g0, 0, 7⟩, ⟨b3, 2, 2⟩, ⟨g2, 4, 4⟩, ⟨b0, 0, 7⟩,
      ⟨b3, 3, 3⟩, ⟨b3, 4, 4⟩, ⟨r1, 0, 5⟩, ⟨g2, 0, 3⟩, ⟨g1, 0, 4⟩, ⟨b3, 0, 0⟩, ⟨g3, 0, 3⟩, ⟨b1, 0, 4⟩,
      ⟨b3, 1, 1⟩, ⟨b2, 0, 3⟩, ⟨r2, 0, 5⟩, ⟨r3, 0, 5⟩, ⟨.shape, 0, 4⟩] }

/-- BC6H mode M8 (`43_bc6h.md` R163). -/
def mode6M8 : Mode6 :=
  { sel := 0x16, modeBits := 5, regions := 2, transformed := true, bp := 8, dp := ⟨5, 6, 5⟩, hl := 82,
    layout := [
      ⟨.mode, 0, 4⟩, ⟨r0, 0, 7⟩, ⟨b3, 0, 0⟩, ⟨b2, 4, 4⟩, ⟨g0, 0, 7⟩, ⟨g2, 5, 5⟩, ⟨g2, 4, 4⟩, ⟨b0, 0, 7⟩,
      ⟨g3, 5, 5⟩, ⟨b3, 4, 4⟩, ⟨r1, 0, 4⟩, ⟨g3, 4, 4⟩, ⟨g2, 0, 3⟩, ⟨g1, 0, 5⟩, ⟨g3, 0, 3⟩, ⟨b1, 0, 4⟩,
      ⟨b3, 1, 1⟩, ⟨b2, 0, 3⟩, ⟨r2, 0, 4⟩, ⟨b3, 2, 2⟩, ⟨r3, 0, 4⟩, ⟨b3, 3, 3⟩, ⟨.shape, 0, 4⟩] }

/-- BC6H mode M9 (`43_bc6h.md` R163). -/
def mode6M9 : Mode6 :=
  { sel := 0x1A, modeBits := 5, regions := 2, transformed := true, bp := 8, dp := ⟨5, 5, 6⟩, hl := 82,
    layout := [
      ⟨.mode, 0, 4⟩, ⟨r0, 0, 7⟩, ⟨b3, 1, 1⟩, ⟨b2, 4, 4⟩, ⟨g0, 0, 7⟩, ⟨b2, 5, 5⟩, ⟨g2, 4, 4⟩, ⟨b0, 0, 7⟩,
      ⟨b3, 5, 5⟩, ⟨b3, 4, 4⟩, ⟨r1, 0, 4⟩, ⟨g3, 4, 4⟩, ⟨g2, 0, 3⟩, ⟨g1, 0, 4⟩, ⟨b3, 0, 0⟩, ⟨g3, 0, 3⟩,
      ⟨b1, 0, 5⟩, ⟨b2, 0, 3⟩, ⟨r2, 0, 4⟩, ⟨b3, 2, 2⟩, ⟨r3, 0, 4⟩, ⟨b3, 3, 3⟩, ⟨.shape, 0, 4⟩] }

/-- BC6H mode M10 (`43_bc6h.md` R163). -/
def mode6M10 : Mode6 :=
  { sel := 0x1E, modeBits := 5, regions := 2, transformed := false, bp := 6, dp := ⟨6, 6, 6⟩, hl := 82,
    layout := [
      ⟨.mode, 0, 4⟩, ⟨r0, 0, 5⟩, ⟨g3, 4, 4⟩, ⟨b3, 0, 0⟩, ⟨b3, 1, 1⟩, ⟨b2, 4, 4⟩, ⟨g0, 0, 5⟩, ⟨g2, 5, 5⟩,
      ⟨b2, 5, 5⟩, ⟨b3, 2, 2⟩, ⟨g2, 4, 4⟩, ⟨b0, 0, 5⟩, ⟨g3, 5, 5⟩, ⟨b3, 3, 3⟩, ⟨b3, 5, 5⟩, ⟨b3, 4, 4⟩,
      ⟨r1, 0, 5⟩, ⟨g2, 0, 3⟩, ⟨g1, 0, 5⟩, ⟨g3, 0, 3⟩, ⟨b1, 0, 5⟩, ⟨b2, 0, 3⟩, ⟨r2, 0, 5⟩, ⟨r3, 0, 5⟩,
      ⟨.shape, 0, 4⟩] }

/-- BC6H mode M11 (`43_bc6h.md` R163). -/
def mode6M11 : Mode6 :=
  { sel := 0x03, modeBits := 5, regions := 1, transformed := false, bp := 10, dp := ⟨10, 10, 10⟩, hl := 65,
    layout := [
      ⟨.mode, 0, 4⟩, ⟨r0, 0, 9⟩, ⟨g0, 0, 9⟩, ⟨b0, 0, 9⟩, ⟨r1, 0, 9⟩, ⟨g1, 0, 9⟩, ⟨b1, 0, 9⟩] }

/-- BC6H mode M12 (`43_bc6h.md` R163). -/
def mode6M12 : Mode6 :=
  { sel := 0x07, modeBits := 5, regions := 1, transformed := true, bp := 11, dp := ⟨9, 9, 9⟩, hl := 65,
    layout := [
      ⟨.mode, 0, 4⟩, ⟨r0, 0, 9⟩, ⟨g0, 0, 9⟩, ⟨b0, 0, 9⟩, ⟨r1, 0, 8⟩, ⟨r0, 10, 10⟩, ⟨g1, 0, 8⟩, ⟨g0, 10, 10⟩,
      ⟨b1, 0, 8⟩, ⟨b0, 10, 10⟩] }

/-- BC6H mode M13 (`43_bc6h.md` R163). -/
def mode6M13 : Mode6 :=
  { sel := 0x0B, modeBits := 5, regions := 1, transformed := true, bp := 12, dp := ⟨8, 8, 8⟩, hl := 65,
    layout := [
      ⟨.mode, 0, 4⟩, ⟨r0, 0, 9⟩, ⟨g0, 0, 9⟩, ⟨b0, 0, 9⟩, ⟨r1, 0, 7⟩, ⟨r0, 11, 10⟩, ⟨g1, 0, 7⟩, ⟨g0, 11, 10⟩,
      ⟨b1, 0, 7⟩, ⟨b0, 11, 10⟩] }

/-- BC6H mode M14 (`43_bc6h.md` R163). -/
def mode6M14 : Mode6 :=
  { sel := 0x0F, modeBits := 5, regions := 1, transformed := true, bp := 16, dp := ⟨4, 4, 4⟩, hl := 65,
    layout := [
      ⟨.mode, 0, 4⟩, ⟨r0, 0, 9⟩, ⟨g0, 0, 9⟩, ⟨b0, 0, 9⟩, ⟨r1, 0, 3⟩, ⟨r0, 15, 10⟩, ⟨g1, 0, 3⟩, ⟨g0, 15, 10⟩,
      ⟨b1, 0, 3⟩, ⟨b0, 15, 10⟩] }

/-- `MODES6`: the fourteen valid modes (`43_bc6h.md` R162, R163). -/
def modes6 : List Mode6 :=
  [mode6M1, mode6M2, mode6M3, mode6M4, mode6M5, mode6M6, mode6M7] ++
  [mode6M8, mode6M9, mode6M10, mode6M11, mode6M12, mode6M13, mode6M14]

/-! ### BC7 modes -/

/-- The descriptor of a BC7 mode (`44_bc7.md` R191). -/
structure Mode7 where
  /-- the mode M7 -/
  m : Nat
  /-- NS: regions -/
  ns : Nat
  /-- PBW: shape bits -/
  pbw : Nat
  /-- NP: P-bits in the block -/
  np : Nat
  /-- RB: rotation bits -/
  rb : Nat
  /-- ISB: index-mode bits -/
  isb : Nat
  /-- IB: primary index precision -/
  ib : Nat
  /-- IB2: secondary index precision, 0 = none -/
  ib2 : Nat
  /-- stored bits per channel -/
  prec : Rgba Nat
  /-- bits per channel with the P-bit -/
  precP : Rgba Nat
  deriving DecidableEq, Repr

/-- NE: the endpoints, two per region (`44_bc7.md` R190). -/
def Mode7.ne (d : Mode7) : Nat := 2 * d.ns

/-- BC7 mode 0 (`44_bc7.md` R191). -/
def mode7M0 : Mode7 :=
  { m := 0, ns := 3, pbw := 4, np := 6, rb := 0, isb := 0, ib := 3, ib2 := 0, prec := ⟨4, 4, 4, 0⟩, precP := ⟨5, 5, 5, 0⟩ }

/-- BC7 mode 1 (`44_bc7.md` R191). -/
def mode7M1 : Mode7 :=
  { m := 1, ns := 2, pbw := 6, np := 2, rb := 0, isb := 0, ib := 3, ib2 := 0, prec := ⟨6, 6, 6, 0⟩, precP := ⟨7, 7, 7, 0⟩ }

/-- BC7 mode 2 (`44_bc7.md` R191). -/
def mode7M2 : Mode7 :=
  { m := 2, ns := 3, pbw := 6, np := 0, rb := 0, isb := 0, ib := 2, ib2 := 0, prec := ⟨5, 5, 5, 0⟩, precP := ⟨5, 5, 5, 0⟩ }

/-- BC7 mode 3 (`44_bc7.md` R191). -/
def mode7M3 : Mode7 :=
  { m := 3, ns := 2, pbw := 6, np := 4, rb := 0, isb := 0, ib := 2, ib2 := 0, prec := ⟨7, 7, 7, 0⟩, precP := ⟨8, 8, 8, 0⟩ }

/-- BC7 mode 4 (`44_bc7.md` R191). -/
def mode7M4 : Mode7 :=
  { m := 4, ns := 1, pbw := 0, np := 0, rb := 2, isb := 1, ib := 2, ib2 := 3, prec := ⟨5, 5, 5, 6⟩, precP := ⟨5, 5, 5, 6⟩ }

/-- BC7 mode 5 (`44_bc7.md` R191). -/
def mode7M5 : Mode7 :=
  { m := 5, ns := 1, pbw := 0, np := 0, rb := 2, isb := 0, ib := 2, ib2 := 2, prec := ⟨7, 7, 7, 8⟩, precP := ⟨7, 7, 7, 8⟩ }

/-- BC7 mode 6 (`44_bc7.md` R191). -/
def mode7M6 : Mode7 :=
  { m := 6, ns := 1, pbw := 0, np := 2, rb := 0, isb := 0, ib := 4, ib2 := 0, prec := ⟨7, 7, 7, 7⟩, precP := ⟨8, 8, 8, 8⟩ }

/-- BC7 mode 7 (`44_bc7.md` R191). -/
def mode7M7 : Mode7 :=
  { m := 7, ns := 2, pbw := 6, np := 4, rb := 0, isb := 0, ib := 2, ib2 := 0, prec := ⟨5, 5, 5, 5⟩, precP := ⟨6, 6, 6, 6⟩ }

/-- `MODES7`: the eight valid modes (`44_bc7.md` R191). -/
def modes7 : List Mode7 :=
  [mode7M0, mode7M1, mode7M2, mode7M3, mode7M4, mode7M5, mode7M6, mode7M7]

end Sys2Proof.Machine
end

