-- ==== Sys2Proof/Machine/Operands.lean ====
section
/-! DEFINITION. How operands are taken from the bits of a block: the bit cursor (`40_bit_cursor.md`), index streams, sign
extension, 4-bit alpha and signed references (`30_encoding.md` R83). -/

namespace Sys2Proof.Machine

/-! ### The bit cursor -/

/-- The block integer of a 16-byte block and the cursor BITPOS (`10_state.md` R25, R34; `00_scope.md` R8). -/
structure Cursor where
  blk : BitVec 128
  pos : Nat
  deriving DecidableEq, Repr

/-- `bit(p)`, bit position `p` of the block (`40_bit_cursor.md` R100). -/
def Cursor.bit (c : Cursor) (p : Nat) : Nat := c.blk.toNat / 2 ^ p % 2

/-- `readBits(n)`: the next `n` bits, the first one least significant; none is the block error of an overrun
(`40_bit_cursor.md` R101, R103). -/
def Cursor.readBits (n : Nat) (c : Cursor) : Option (Nat × Cursor) :=
  if n = 0 then some (0, c)
  else if 128 < c.pos + n then none
  else some (c.blk.toNat / 2 ^ c.pos % 2 ^ n, { c with pos := c.pos + n })

/-- `readBit()` (`40_bit_cursor.md` R102). -/
def Cursor.readBit (c : Cursor) : Option (Nat × Cursor) := c.readBits 1

/-- Consecutive reads of the given widths, in order. -/
def Cursor.readWidths : List Nat → Cursor → Option (List Nat × Cursor)
  | [], c => some ([], c)
  | n :: ns, c =>
    match c.readBits n with
    | none => none
    | some (v, c₁) =>
      match Cursor.readWidths ns c₁ with
      | none => none
      | some (vs, c₂) => some (v :: vs, c₂)

/-- `readByte(k)` of a block buffer (`40_bit_cursor.md` R104). -/
def readByte (blk : List Byte) (k : Nat) : Byte := blk.getD k 0

/-- `readLE(k, n)` of a block buffer (`40_bit_cursor.md` R104). -/
def readLE (blk : List Byte) (k n : Nat) : Nat := leNat ((blk.drop k).take n)

/-! ### Fields -/

/-- `sext_N(v)`: an `N`-bit value read as two's complement (`00_scope.md` R10). -/
def sext (n v : Nat) : Int := if v < 2 ^ (n - 1) then (v : Int) else (v : Int) - 2 ^ n

/-- Index of pixel `i` in a packed stream of `w`-bit indices (`30_encoding.md` R75, R76). -/
def streamIndex {n : Nat} (w : Nat) (sel : BitVec n) (i : Nat) : Nat := sel.toNat / 2 ^ (w * i) % 2 ^ w

/-- `alpha8` of the 4-bit alpha of pixel `i` (`42_fixed_gradient.md` R136, R137). -/
def explicitAlpha (alpha64 : BitVec 64) (i : Nat) : Byte := BitVec.ofNat 8 (streamIndex 4 alpha64 i * 17)

/-- A signed reference byte, -128 replaced by -127 (`42_fixed_gradient.md` R146). -/
def signedRef (e : Byte) : Int := if e.toInt = -128 then -127 else e.toInt

/-- The sixteen pixel numbers of a tile (`00_scope.md` R11). -/
def pixelNos : List Nat := List.range 16

/-- Registers `0 .. vs.length-1` of a bank written, the others kept. -/
def overwrite {α : Type} (bank vs : List α) : List α := vs ++ bank.drop vs.length

end Sys2Proof.Machine
end

