-- ==== Sys2Proof/Machine/Ops.lean ====
section
/-! DEFINITION. The named operations over memory and registers: SRC, PAD, OUTQ, fault entry and the ways out of FAULTED, the
block error, host register access, and the store that ends every block. -/

namespace Sys2Proof.Machine

/-- The outcome of one step. -/
abbrev Result := Host.Outcome State Fault Refusal

/-- One operation after another; a fault or a refusal ends the sequence. -/
def andThen (o : Result) (f : State → Result) : Result :=
  match o with
  | .next s => f s
  | .fault r => .fault r
  | .refused r => .refused r

/-! ### SRC (`10_state.md` R22) -/

/-- What a byte of SRC that no host write has placed reads as. DESIGN CHOICE, unsafe: log entry 3. -/
def unplacedByte : Byte := 0

/-- The canonical form of SRC: addresses strictly rising, no entry equal to what an unlisted address reads as. -/
abbrev Memory.wf (m : List Host.Cell) : Prop :=
  m.Pairwise (fun x y => x.1 < y.1) ∧ ∀ c ∈ m, c.2 ≠ unplacedByte

/-- The byte at an address. -/
def Memory.read (m : List Host.Cell) (a : Nat) : Byte :=
  match m with
  | [] => unplacedByte
  | (k, v) :: r => if k = a then v else Memory.read r a

/-- One byte placed, keeping the canonical form. -/
def Memory.write (m : List Host.Cell) (a : Nat) (b : Byte) : List Host.Cell :=
  match m with
  | [] => if b = unplacedByte then [] else [(a, b)]
  | (k, v) :: r =>
    if a < k then (if b = unplacedByte then (k, v) :: r else (a, b) :: (k, v) :: r)
    else if a = k then (if b = unplacedByte then r else (a, b) :: r)
    else (k, v) :: Memory.write r a b

/-- Bytes placed at ascending addresses. -/
def Memory.writeBytes (m : List Host.Cell) (a : Nat) : List Byte → List Host.Cell
  | [] => m
  | b :: bs => Memory.writeBytes (Memory.write m a b) (a + 1) bs

/-- The `n` bytes from an address. -/
def Memory.readBytes (m : List Host.Cell) (a n : Nat) : List Byte :=
  (List.range n).map fun k => Memory.read m (a + k)

/-- `MemRead(SRC, a, n)`: defined only below SRC_LEN (`20_memory.md` R52). -/
def memRead (s : State) (a n : Nat) : Option (List Byte) :=
  if a + n ≤ s.srcLen then some (Memory.readBytes s.src a n) else none

/-- A header word, `LE(MemRead(SRC, off, 4))` (`46_resolver.md` R237). -/
def srcWord (s : State) (off : Nat) : Option Word :=
  (memRead s off 4).map fun bs => BitVec.ofNat 32 (leNat bs)

/-! ### Descriptors (`10_state.md` R31) -/

/-- `outputBytesPerPixel`, `obpp`. -/
def outBytes : Fmt → Nat
  | .none => 0
  | .bc1 | .bc2 | .bc3 | .bc6h | .bc7 => 4
  | .bc4 | .bc4s => 1
  | .bc5 | .bc5s => 3

/-- The BlockFormatDescriptor; FMT = NONE has none. -/
def descriptor (f : Fmt) : Option Descriptor :=
  if f = .none then none
  else some { bitsPerPixel := 8 * outBytes f, outputBytesPerPixel := outBytes f, blockSide := 4,
              compressedBytesPerBlock := blockBytes f, isCompressed := true }

/-! ### PAD (`10_state.md` R26) -/

/-- The PAD address of channel `c` of pixel `i` of a tile (`41_block_iteration.md` R116). -/
def pixelAddr (o stride obpp i c : Nat) : Nat := o + (i / 4 * stride + i % 4) * obpp + c

/-- `MemWrite(PAD, a, 1, v)` for each pair in order; none when an address is outside PAD. -/
def padWrites : List (Nat × Byte) → List Byte → Option (List Byte)
  | [], pad => some pad
  | (a, v) :: ws, pad => if a < pad.length then padWrites ws (pad.set a v) else none

/-- The stores of a tile, pixel 0 to 15, channel 0 upward (`41_block_iteration.md` R116). -/
def tileWrites (o stride obpp : Nat) (px : List Pixel) : List (Nat × Byte) :=
  pixelNos.flatMap fun i => (List.range obpp).map fun c => (pixelAddr o stride obpp i c, (px.getD i []).getD c 0)

/-- The trimmed bytes of a level: row by row, the first `w` pixels of the first `h` rows (`41_block_iteration.md` R118). -/
def trim (pad : List Byte) (stride obpp w h : Nat) : List Byte :=
  (List.range h).flatMap fun y => (pad.drop (y * stride * obpp)).take (w * obpp)

/-! ### Fault entry and the ways out (`60_exceptions.md` R270, R271) -/

/-- `raise F(info)`: FAULT and FAULT_INFO written, STATE FAULTED, OUTQ emptied, PAD discarded, the command ended; everything
else kept, FMT too (`60_exceptions.md` R270, against R30 for TRUNCATED_STREAM: log entry 5). -/
def raise (f : FaultClass) (info : Word) (s : State) : State :=
  { s with fault := f, faultInfo := info, unit := .faulted, outq := [], pad := none, phase := .waiting }

/-- What RESOLVE clears first, a way out of FAULTED (`46_resolver.md` R237, `70_reset_and_hazards.md` R292): every
host-visible register but CMD and SRC_LEN, and OUTQ. -/
def clearForResolve (s : State) : State :=
  { s with unit := .idle, fault := .none, faultInfo := 0, blkErr := false, fmt := .none, outq := [], srcOff := 0,
           lw := 0, lh := 0, level := 0, hdr := {}, ext := none }

/-- What RESET leaves, the other way out of FAULTED (`46_resolver.md` R252): the reset state, SRC and SRC_LEN kept. The
host's pending actions are the host's too (log entry 1). -/
def resetUnit (s : State) : State :=
  { State.reset with src := s.src, srcLen := s.srcLen, host := s.host }

/-! ### Blocks -/

/-- A decoded tile: its sixteen pixels, and whether the block ended in a block error. -/
structure Tile where
  px : List Pixel
  err : Bool
  deriving DecidableEq, Repr

/-- `blockError(from)`: the fallback for the pixels not yet produced (`60_exceptions.md` R274). -/
def blockError (err : Rgba Byte) (produced : List Pixel) : Tile :=
  ⟨produced ++ List.replicate (16 - produced.length) err.bytes, true⟩

/-- What ends every block: the tile stored in PAD, SRCOFF advanced by the codec's block size, BLKERR made sticky
(`41_block_iteration.md` R115, R116; `60_exceptions.md` R274). -/
def finishBlock (f : Fmt) (t : Tile) (s : State) : Result :=
  match s.pad with
  | none => .fault .padOutOfRange
  | some pad =>
    match padWrites (tileWrites s.seq.outOff s.seq.stride (outBytes f) t.px) pad with
    | none => .fault .padOutOfRange
    | some pad' =>
      .next { s with pad := some pad', srcOff := s.srcOff + blockBytes f, blkErr := stickyBlkErr s.blkErr t.err,
                     scratch := { s.scratch with px := t.px } }

/-! ### Host access to registers (`46_resolver.md` R255) -/

/-- SRC bytes placed by the host; a byte at or beyond SRC_CAP is refused (`93_implementation_defined.md` U11). -/
def hostWriteSrc (a : Nat) (bs : List Byte) (s : State) : Result :=
  match config.srcCap with
  | some cap =>
    if a + bs.length ≤ cap then .next { s with src := Memory.writeBytes s.src a bs } else .refused .srcOverCapacity
  | none => .next { s with src := Memory.writeBytes s.src a bs }

/-- SRC_LEN written by the host; a value above SRC_CAP is refused (`93_implementation_defined.md` U11). -/
def hostWriteSrcLen (n : Nat) (s : State) : Result :=
  match config.srcCap with
  | some cap => if n ≤ cap then .next { s with srcLen := n } else .refused .srcOverCapacity
  | none => .next { s with srcLen := n }

/-- A host write to a register other than CMD: SRC_LEN in any STATE; SRCOFF, LW, LH, LEVEL in READY; every other write is
ignored (`46_resolver.md` R255, `93_implementation_defined.md` U10). A wider value keeps its low 32 bits (log entry 9). A
number that names no register is ignored too: DESIGN CHOICE, log entry 26. -/
def hostWriteReg (no value : Nat) (s : State) : Result :=
  if no = 5 then hostWriteSrcLen value s
  else if s.unit ≠ .ready then .next s
  else if no = 6 then .next { s with srcOff := value }
  else if no = 7 then .next { s with lw := BitVec.ofNat 32 value }
  else if no = 8 then .next { s with lh := BitVec.ofNat 32 value }
  else if no = 9 then .next { s with level := BitVec.ofNat 32 value }
  else .next s

/-- The code of STATE (`10_state.md` R27). -/
def UnitState.code : UnitState → Nat
  | .idle => 0
  | .ready => 1
  | .faulted => 2

/-- The code of FAULT (`60_exceptions.md` R266). -/
def FaultClass.code : FaultClass → Nat
  | .none => 0
  | .malformedContainer => 1
  | .unsupportedFormat => 2
  | .truncatedStream => 3

/-- The code of FMT (`10_state.md` R30). -/
def fmtCode : Fmt → Nat
  | .none => 0
  | .bc1 => 1
  | .bc2 => 2
  | .bc3 => 3
  | .bc4 => 4
  | .bc4s => 5
  | .bc5 => 6
  | .bc5s => 7
  | .bc6h => 8
  | .bc7 => 9

/-- The header registers in the order of their numbers 16-35 (`10_state.md` R28). -/
def Header.regs (h : Header) : List Word :=
  [h.magic, h.size, h.flags, h.height, h.width, h.pitch, h.depth, h.mips,
   h.pfSize, h.pfFlags, h.pfFourcc, h.pfBitcount, h.pfRmask, h.pfGmask, h.pfBmask, h.pfAmask,
   h.caps, h.caps2, h.caps3, h.caps4]

/-- The extended header registers in the order of their numbers 41-45 (`10_state.md` R29). -/
def ExtHeader.regs (x : ExtHeader) : List Word := [x.format, x.dim, x.misc, x.array, x.misc2]

/-- What the host reads from a register, without side effect (`46_resolver.md` R255, `10_state.md` R27-R30); none for a
number that is no register the host may read (CMD is write only; numbers that name no register: log entry 26). -/
def hostRead (s : State) (no : Nat) : Option Nat :=
  if no = 1 then some s.unit.code
  else if no = 2 then some s.fault.code
  else if no = 3 then some s.faultInfo.toNat
  else if no = 4 then some s.blkErr.toNat
  else if no = 5 then some s.srcLen
  else if no = 6 then some s.srcOff
  else if no = 7 then some s.lw.toNat
  else if no = 8 then some s.lh.toNat
  else if no = 9 then some s.level.toNat
  else if 16 ≤ no ∧ no ≤ 35 then (s.hdr.regs[no - 16]?).map BitVec.toNat
  else if no = 40 then some s.ext.isSome.toNat
  else if 41 ≤ no ∧ no ≤ 45 then ((s.ext.getD {}).regs[no - 41]?).map BitVec.toNat
  else if no = 48 then some (fmtCode s.fmt)
  else none

end Sys2Proof.Machine
end

