-- ==== Sys2Proof/Machine/Bc6h.lean ====
section
/-! DEFINITION. The BC6H codec, unsigned half float (`43_bc6h.md`). The mode field is known from the instruction; the rest of
the block is read through the bit cursor as rule R161 reads it. -/

namespace Sys2Proof.Machine

/-! ### Endpoints by name -/

/-- The endpoint of a name. -/
def Endpoints.get {α : Type} (x : Endpoints α) : EndpointName → Rgb α
  | .w => x.w
  | .x => x.x
  | .y => x.y
  | .z => x.z

/-- The channel of a name. -/
def Rgb.get {α : Type} (x : Rgb α) : Channel → α
  | .r => x.r
  | .g => x.g
  | .b => x.b

/-- One channel changed. -/
def Rgb.modify {α : Type} (f : α → α) (x : Rgb α) : Channel → Rgb α
  | .r => { x with r := f x.r }
  | .g => { x with g := f x.g }
  | .b => { x with b := f x.b }

/-- One channel of one endpoint changed. -/
def Endpoints.modify {α : Type} (f : α → α) (x : Endpoints α) (e : EndpointName) (c : Channel) : Endpoints α :=
  match e with
  | .w => { x with w := Rgb.modify f x.w c }
  | .x => { x with x := Rgb.modify f x.x c }
  | .y => { x with y := Rgb.modify f x.y c }
  | .z => { x with z := Rgb.modify f x.z c }

/-- The same function on every endpoint. -/
def Endpoints.map {α β : Type} (f : Rgb α → Rgb β) (x : Endpoints α) : Endpoints β := ⟨f x.w, f x.x, f x.y, f x.z⟩

/-! ### Header scatter -/

/-- The fields the header fills: EP6 and SHAPE (`43_bc6h.md` R164). -/
structure Fields6 where
  ep : Endpoints Nat
  shape : Nat
  deriving DecidableEq, Repr

/-- All fields start at 0 (`43_bc6h.md` R164). -/
def Fields6.zero : Fields6 := ⟨⟨⟨0, 0, 0⟩, ⟨0, 0, 0⟩, ⟨0, 0, 0⟩, ⟨0, 0, 0⟩⟩, 0⟩

/-- `field <- field | (1 << k)`; the mode tag and an unused position go nowhere (`43_bc6h.md` R161, R164). -/
def Fields6.setBit (h : Fields6) : HdrField × Nat → Fields6
  | (.mode, _) => h
  | (.unused, _) => h
  | (.shape, k) => { h with shape := h.shape ||| 1 <<< k }
  | (.ep e c, k) => { h with ep := h.ep.modify (· ||| 1 <<< k) e c }

/-- The scatter loop: so many header bits from BITPOS, each 1 bit OR-ed into the field bit the layout names; none on an
overrun (`43_bc6h.md` R161, R164). -/
def scatter (layout : List (HdrField × Nat)) : Nat → Cursor → Fields6 → Option (Fields6 × Cursor)
  | 0, c, h => some (h, c)
  | n + 1, c, h =>
    match c.readBit with
    | none => none
    | some (v, c₁) => scatter layout n c₁ (if v = 1 then h.setBit (layout.getD c.pos (.unused, 0)) else h)

/-! ### Endpoints -/

/-- Sign extension and inverse delta of one non-base endpoint (`43_bc6h.md` R165, R166). -/
def deltaEndpoint (d : Mode6) (w e : Rgb Nat) : Rgb Nat :=
  let one (dp v base : Nat) : Nat := ((sext dp v + base) % 2 ^ d.bp).toNat
  ⟨one d.dp.r e.r w.r, one d.dp.g e.g w.g, one d.dp.b e.b w.b⟩

/-- The absolute endpoints: transformed modes only, W unchanged (`43_bc6h.md` R165, R166). In the transformed one-region modes
(M12 to M14) Y and Z, 0 after the scatter, become W by the pseudocode of R161 and R166, where R164 and U24 say they stay 0:
DESIGN CHOICE, log entry 25; no pixel depends on it. -/
def absolute (d : Mode6) (ep : Endpoints Nat) : Endpoints Nat :=
  if d.transformed then
    { w := ep.w, x := deltaEndpoint d ep.w ep.x, y := deltaEndpoint d ep.w ep.y, z := deltaEndpoint d ep.w ep.z }
  else ep

/-- `UNQ6(c, p)` (`43_bc6h.md` R170). -/
def unq6 (p c : Nat) : Nat :=
  if 15 ≤ p then c
  else if c = 0 then 0
  else if c = 2 ^ p - 1 then 0xFFFF
  else (c * 2 ^ 16 + 0x8000) / 2 ^ p

/-! ### Pixels -/

/-- Finish: the 31/64 scale (`43_bc6h.md` R172). -/
def finish6 (q : Nat) : Nat := q * 31 / 64

/-- `HALF2BYTE(h)`: the value of the half as a fraction, clamped to 1, scaled to a byte, round half up
(`43_bc6h.md` R173). -/
def half2byte (h : Nat) : Nat :=
  let e := h / 1024
  let m := h % 1024
  let num := if e = 0 then m else if e ≤ 25 then 1024 + m else (1024 + m) * 2 ^ (e - 25)
  let den := if e = 0 then 2 ^ 24 else if e ≤ 25 then 2 ^ (25 - e) else 1
  (2 * 255 * min num den + den) / (2 * den)

/-- One output channel from two stored components and a weight (`43_bc6h.md` R170-R173). -/
def channel6 (bp w a b : Nat) : Byte :=
  BitVec.ofNat 8 (half2byte (finish6 (interp (unq6 bp a) (unq6 bp b) w)))

/-- The two endpoints of a region: W, X of region 0, Y, Z of region 1 (`43_bc6h.md` R167). -/
def regionEndpoints (ep : Endpoints Nat) (r : Nat) : Rgb Nat × Rgb Nat := if r = 0 then (ep.w, ep.x) else (ep.y, ep.z)

/-- Pixel `i` under an index (`43_bc6h.md` R167-R174). -/
def pixel6 (d : Mode6) (shape : Nat) (ep : Endpoints Nat) (i idx : Nat) : Pixel :=
  let e := regionEndpoints ep (region d.regions shape i)
  let c := e.1.map₂ (channel6 d.bp (weight d.ib idx)) e.2
  [c.r, c.g, c.b, 255]

/-- The width of pixel `i`'s index (`43_bc6h.md` R168). -/
def indexWidth6 (d : Mode6) (shape i : Nat) : Nat := if isFixup d.regions shape i then d.ib - 1 else d.ib

/-- What the pixel loop leaves. -/
structure Out6 where
  tile : Tile
  pos : Nat
  idx : Nat
  deriving DecidableEq, Repr

/-- The pixel loop, pixels 0 to 15 (`43_bc6h.md` R161): an overrun or an out-of-range index fills the pixels not yet produced
(R169, R176). -/
def pixels6 (d : Mode6) (shape : Nat) (ep : Endpoints Nat) : Nat → Nat → List Pixel → Cursor → Out6
  | 0, idx, done, c => ⟨⟨done, false⟩, c.pos, idx⟩
  | n + 1, idx, done, c =>
    match c.readBits (indexWidth6 d shape done.length) with
    | none => ⟨blockError config.bc6hErr done, c.pos, idx⟩
    | some (v, c₁) =>
      if 2 ^ d.ib ≤ v then ⟨blockError config.bc6hErr done, c₁.pos, v⟩
      else pixels6 d shape ep n v (done ++ [pixel6 d shape ep done.length v]) c₁

/-! ### The instruction -/

/-- M6 and BITPOS after the mode field (`43_bc6h.md` R161). -/
def setMode6 (sel bits : Nat) (s : State) : State :=
  { s with scratch := { s.scratch with bitpos := bits, bc6h := { s.scratch.bc6h with m6 := BitVec.ofNat 5 sel } } }

/-- SHAPE, EP6, IDX and BITPOS after the block. -/
def setScratch6 (shape : Nat) (ep : Endpoints Nat) (idx pos : Nat) (s : State) : State :=
  { s with scratch := { s.scratch with
      bitpos := pos
      bc6h := { s.scratch.bc6h with
        shape := BitVec.ofNat 5 shape
        ep6 := ep.map fun x => x.map (BitVec.ofNat 17)
        idx := BitVec.ofNat 4 idx } } }

/-- BC6H in a valid mode, from the end of the mode field (`43_bc6h.md` R161). An overrun in the header is the block error with
no pixel produced (`60_exceptions.md` R274). -/
def runBc6h (d : Mode6) (b : BitVec 128) (s : State) : Result :=
  let s₁ := setMode6 d.sel d.modeBits s
  match scatter d.fieldBits (d.hl - d.modeBits) ⟨b, d.modeBits⟩ Fields6.zero with
  | none => finishBlock .bc6h (blockError config.bc6hErr []) s₁
  | some (h, c) =>
    let ep := absolute d h.ep
    let out := pixels6 d h.shape ep 16 s.scratch.bc6h.idx.toNat [] c
    finishBlock .bc6h out.tile (setScratch6 h.shape ep out.idx out.pos s₁)

/-- BC6H with a reserved selector: the block error with no pixel produced, no further bit read (`43_bc6h.md` R162). -/
def runReserved6 (sel : Nat) (s : State) : Result :=
  finishBlock .bc6h (blockError config.bc6hErr []) (setMode6 sel 5 s)

/-- BC6H.M1 (`43_bc6h.md` R161, R163). -/
def execBc6hM1 (header : BitVec 80) (indices : BitVec 46) (s : State) : Result :=
  runBc6h mode6M1 (asmBc6hM1 header indices) s

/-- BC6H.M2 (`43_bc6h.md` R161, R163). -/
def execBc6hM2 (header : BitVec 80) (indices : BitVec 46) (s : State) : Result :=
  runBc6h mode6M2 (asmBc6hM2 header indices) s

/-- BC6H.M3 (`43_bc6h.md` R161, R163). -/
def execBc6hM3 (header : BitVec 77) (indices : BitVec 46) (s : State) : Result :=
  runBc6h mode6M3 (asmBc6hM3 header indices) s

/-- BC6H.M4 (`43_bc6h.md` R161, R163). -/
def execBc6hM4 (header : BitVec 77) (indices : BitVec 46) (s : State) : Result :=
  runBc6h mode6M4 (asmBc6hM4 header indices) s

/-- BC6H.M5 (`43_bc6h.md` R161, R163). -/
def execBc6hM5 (header : BitVec 77) (indices : BitVec 46) (s : State) : Result :=
  runBc6h mode6M5 (asmBc6hM5 header indices) s

/-- BC6H.M6 (`43_bc6h.md` R161, R163). -/
def execBc6hM6 (header : BitVec 77) (indices : BitVec 46) (s : State) : Result :=
  runBc6h mode6M6 (asmBc6hM6 header indices) s

/-- BC6H.M7 (`43_bc6h.md` R161, R163). -/
def execBc6hM7 (header : BitVec 77) (indices : BitVec 46) (s : State) : Result :=
  runBc6h mode6M7 (asmBc6hM7 header indices) s

/-- BC6H.M8 (`43_bc6h.md` R161, R163). -/
def execBc6hM8 (header : BitVec 77) (indices : BitVec 46) (s : State) : Result :=
  runBc6h mode6M8 (asmBc6hM8 header indices) s

/-- BC6H.M9 (`43_bc6h.md` R161, R163). -/
def execBc6hM9 (header : BitVec 77) (indices : BitVec 46) (s : State) : Result :=
  runBc6h mode6M9 (asmBc6hM9 header indices) s

/-- BC6H.M10 (`43_bc6h.md` R161, R163). -/
def execBc6hM10 (header : BitVec 77) (indices : BitVec 46) (s : State) : Result :=
  runBc6h mode6M10 (asmBc6hM10 header indices) s

/-- BC6H.M11 (`43_bc6h.md` R161, R163). -/
def execBc6hM11 (header : BitVec 60) (indices : BitVec 63) (s : State) : Result :=
  runBc6h mode6M11 (asmBc6hM11 header indices) s

/-- BC6H.M12 (`43_bc6h.md` R161, R163). -/
def execBc6hM12 (header : BitVec 60) (indices : BitVec 63) (s : State) : Result :=
  runBc6h mode6M12 (asmBc6hM12 header indices) s

/-- BC6H.M13 (`43_bc6h.md` R161, R163). -/
def execBc6hM13 (header : BitVec 60) (indices : BitVec 63) (s : State) : Result :=
  runBc6h mode6M13 (asmBc6hM13 header indices) s

/-- BC6H.M14 (`43_bc6h.md` R161, R163). -/
def execBc6hM14 (header : BitVec 60) (indices : BitVec 63) (s : State) : Result :=
  runBc6h mode6M14 (asmBc6hM14 header indices) s

/-- BC6H.RSV_13 (`43_bc6h.md` R162): the other 123 bits are not read. -/
def execBc6hRsv13 (_ignored : BitVec 123) (s : State) : Result := runReserved6 0x13 s

/-- BC6H.RSV_17 (`43_bc6h.md` R162): the other 123 bits are not read. -/
def execBc6hRsv17 (_ignored : BitVec 123) (s : State) : Result := runReserved6 0x17 s

/-- BC6H.RSV_1B (`43_bc6h.md` R162): the other 123 bits are not read. -/
def execBc6hRsv1B (_ignored : BitVec 123) (s : State) : Result := runReserved6 0x1B s

/-- BC6H.RSV_1F (`43_bc6h.md` R162): the other 123 bits are not read. -/
def execBc6hRsv1F (_ignored : BitVec 123) (s : State) : Result := runReserved6 0x1F s

end Sys2Proof.Machine
end

