-- ==== Sys2Proof/Machine/Bc7.lean ====
section
/-! DEFINITION. The BC7 codec (`44_bc7.md`). The mode field is known from the instruction; the rest of the block is read
through the bit cursor in the order of rule R190. -/

namespace Sys2Proof.Machine

/-! ### Fields -/

/-- The stored fields of a block, as read: one list per channel, endpoint 0 first (`44_bc7.md` R193). -/
structure Fields7 where
  shape : Nat
  rot : Nat
  isel : Nat
  chans : Rgba (List Nat)
  pb : List Nat
  i1 : List Nat
  i2 : List Nat
  pos : Nat
  deriving DecidableEq, Repr

/-- Widths of the primary index stream (`44_bc7.md` R197). -/
def primaryWidths (d : Mode7) (shape : Nat) : List Nat :=
  pixelNos.map fun i => if isFixup d.ns shape i then d.ib - 1 else d.ib

/-- Widths of the secondary index stream, empty without one (`44_bc7.md` R197). -/
def secondaryWidths (d : Mode7) : List Nat :=
  if d.ib2 = 0 then [] else pixelNos.map fun i => if i = 0 then d.ib2 - 1 else d.ib2

/-- All fields in their fixed order: shape, rotation, index mode, R, G, B, A of every endpoint, P-bits, primary indices,
secondary indices; none when a read passes bit 127 (`44_bc7.md` R190, R193, R202). -/
def readFields7 (d : Mode7) (c : Cursor) : Option Fields7 := do
  let (shape, c) ← c.readBits d.pbw
  let (rot, c) ← c.readBits d.rb
  let (isel, c) ← c.readBits d.isb
  let (r, c) ← c.readWidths (List.replicate d.ne d.prec.r)
  let (g, c) ← c.readWidths (List.replicate d.ne d.prec.g)
  let (b, c) ← c.readWidths (List.replicate d.ne d.prec.b)
  let (a, c) ← c.readWidths (List.replicate d.ne d.prec.a)
  let (pb, c) ← c.readWidths (List.replicate d.np 1)
  let (i1, c) ← c.readWidths (primaryWidths d shape)
  let (i2, c) ← c.readWidths (secondaryWidths d)
  some ⟨shape, rot, isel, ⟨r, g, b, a⟩, pb, i1, i2, c.pos⟩

/-! ### Endpoints -/

/-- The P-bit of endpoint `e`: number `(e*NP) div NE` (`44_bc7.md` R194). -/
def pbitOf (d : Mode7) (pb : List Nat) (e : Nat) : Nat := pb.getD (e * d.np / d.ne) 0

/-- P-bit merge of one channel value: appended as the new low bit where the precisions differ (`44_bc7.md` R194). -/
def mergePbit (np prec precP pbit v : Nat) : Nat := if 0 < np ∧ prec ≠ precP then 2 * v + pbit else v

/-- `UNQ7(v, p)` (`44_bc7.md` R195). -/
def unq7 (p v : Nat) : Nat :=
  if p = 0 then 255
  else
    let t := v <<< (8 - p)
    t ||| t >>> p

/-- Endpoint `e`, merged and unquantised (`44_bc7.md` R194, R195). -/
def endpoint7 (d : Mode7) (f : Fields7) (e : Nat) : Rgba Nat :=
  let one (prec precP : Nat) (vs : List Nat) : Nat := unq7 precP (mergePbit d.np prec precP (pbitOf d f.pb e) (vs.getD e 0))
  ⟨one d.prec.r d.precP.r f.chans.r, one d.prec.g d.precP.g f.chans.g,
   one d.prec.b d.precP.b f.chans.b, one d.prec.a d.precP.a f.chans.a⟩

/-! ### Pixels -/

/-- The colour weight of a pixel (`44_bc7.md` R198). -/
def colourWeight (d : Mode7) (isel i1 i2 : Nat) : Nat :=
  if d.ib2 = 0 then weight d.ib i1 else if isel = 0 then weight d.ib i1 else weight d.ib2 i2

/-- The alpha weight of a pixel (`44_bc7.md` R198). -/
def alphaWeight (d : Mode7) (isel i1 i2 : Nat) : Nat :=
  if d.ib2 = 0 then weight d.ib i1 else if isel = 0 then weight d.ib2 i2 else weight d.ib i1

/-- Channel rotation (`44_bc7.md` R200). -/
def rotate7 (rot : Nat) (p : Rgba Byte) : Rgba Byte :=
  if rot = 1 then { p with r := p.a, a := p.r }
  else if rot = 2 then { p with g := p.a, a := p.g }
  else if rot = 3 then { p with b := p.a, a := p.b }
  else p

/-- Pixel `i` (`44_bc7.md` R196, R198-R200). -/
def pixel7 (d : Mode7) (f : Fields7) (i : Nat) : Rgba Byte :=
  let r := region d.ns f.shape i
  let lo := endpoint7 d f (2 * r)
  let hi := endpoint7 d f (2 * r + 1)
  let wc := colourWeight d f.isel (f.i1.getD i 0) (f.i2.getD i 0)
  let wa := alphaWeight d f.isel (f.i1.getD i 0) (f.i2.getD i 0)
  let mix (a b w : Nat) : Byte := BitVec.ofNat 8 (interp a b w)
  rotate7 f.rot ⟨mix lo.r hi.r wc, mix lo.g hi.g wc, mix lo.b hi.b wc, mix lo.a hi.a wa⟩

/-- The sixteen pixels (`44_bc7.md` R190). -/
def pixels7 (d : Mode7) (f : Fields7) : List Pixel := pixelNos.map fun i => (pixel7 d f i).bytes

/-! ### The instruction -/

/-- M7 and BITPOS after the mode field (`44_bc7.md` R190). -/
def setMode7 (m bits : Nat) (s : State) : State :=
  { s with scratch := { s.scratch with bitpos := bits, bc7 := { s.scratch.bc7 with m7 := m } } }

/-- The scratch the fields fill; registers the mode does not use keep their value (log entry 20). -/
def setScratch7 (d : Mode7) (f : Fields7) (s : State) : State :=
  let old := s.scratch.bc7
  { s with scratch := { s.scratch with
      bitpos := f.pos
      bc7 := { old with
        shape := BitVec.ofNat 6 f.shape
        rot := BitVec.ofNat 2 f.rot
        isel := BitVec.ofNat 1 f.isel
        ep7 := overwrite old.ep7 ((List.range d.ne).map fun e => (endpoint7 d f e).map (BitVec.ofNat 8))
        pb := overwrite old.pb (f.pb.map (BitVec.ofNat 1))
        i1 := overwrite old.i1 (f.i1.map (BitVec.ofNat 4))
        i2 := overwrite old.i2 (f.i2.map (BitVec.ofNat 3)) } } }

/-- BC7 in a valid mode, from the end of the mode field (`44_bc7.md` R190). An overrun anywhere is the block error of all
sixteen pixels (R202). -/
def runBc7 (d : Mode7) (b : BitVec 128) (s : State) : Result :=
  let s₁ := setMode7 d.m (d.m + 1) s
  match readFields7 d ⟨b, d.m + 1⟩ with
  | none => finishBlock .bc7 (blockError config.bc7Err []) s₁
  | some f => finishBlock .bc7 ⟨pixels7 d f, false⟩ (setScratch7 d f s₁)

/-- BC7.M0 (`44_bc7.md` R190, R191). -/
def execBc7M0 (shape : BitVec 4) (r : BitVec 24) (g : BitVec 24) (b : BitVec 24) (pbits : BitVec 6)
    (primary : BitVec 45) (s : State) : Result :=
  runBc7 mode7M0 (asmBc7M0 shape r g b pbits primary) s

/-- BC7.M1 (`44_bc7.md` R190, R191). -/
def execBc7M1 (shape : BitVec 6) (r : BitVec 24) (g : BitVec 24) (b : BitVec 24) (pbits : BitVec 2)
    (primary : BitVec 46) (s : State) : Result :=
  runBc7 mode7M1 (asmBc7M1 shape r g b pbits primary) s

/-- BC7.M2 (`44_bc7.md` R190, R191). -/
def execBc7M2 (shape : BitVec 6) (r : BitVec 30) (g : BitVec 30) (b : BitVec 30) (primary : BitVec 29)
    (s : State) : Result :=
  runBc7 mode7M2 (asmBc7M2 shape r g b primary) s

/-- BC7.M3 (`44_bc7.md` R190, R191). -/
def execBc7M3 (shape : BitVec 6) (r : BitVec 28) (g : BitVec 28) (b : BitVec 28) (pbits : BitVec 4)
    (primary : BitVec 30) (s : State) : Result :=
  runBc7 mode7M3 (asmBc7M3 shape r g b pbits primary) s

/-- BC7.M4 (`44_bc7.md` R190, R191). -/
def execBc7M4 (rot : BitVec 2) (isel : BitVec 1) (r : BitVec 10) (g : BitVec 10) (b : BitVec 10)
    (a : BitVec 12) (primary : BitVec 31) (secondary : BitVec 47) (s : State) : Result :=
  runBc7 mode7M4 (asmBc7M4 rot isel r g b a primary secondary) s

/-- BC7.M5 (`44_bc7.md` R190, R191). -/
def execBc7M5 (rot : BitVec 2) (r : BitVec 14) (g : BitVec 14) (b : BitVec 14) (a : BitVec 16)
    (primary : BitVec 31) (secondary : BitVec 31) (s : State) : Result :=
  runBc7 mode7M5 (asmBc7M5 rot r g b a primary secondary) s

/-- BC7.M6 (`44_bc7.md` R190, R191). -/
def execBc7M6 (r : BitVec 14) (g : BitVec 14) (b : BitVec 14) (a : BitVec 14) (pbits : BitVec 2)
    (primary : BitVec 63) (s : State) : Result :=
  runBc7 mode7M6 (asmBc7M6 r g b a pbits primary) s

/-- BC7.M7 (`44_bc7.md` R190, R191). -/
def execBc7M7 (shape : BitVec 6) (r : BitVec 20) (g : BitVec 20) (b : BitVec 20) (a : BitVec 20)
    (pbits : BitVec 4) (primary : BitVec 30) (s : State) : Result :=
  runBc7 mode7M7 (asmBc7M7 shape r g b a pbits primary) s

/-- BC7.RSV, byte 0 = 0: eight zero bits read, then the block error with no pixel produced; bytes 1-15 ignored
(`44_bc7.md` R192). -/
def execBc7Rsv (_ignored : BitVec 120) (s : State) : Result :=
  finishBlock .bc7 (blockError config.bc7Err []) (setMode7 8 8 s)

end Sys2Proof.Machine
end

