-- ==== Sys2Proof/Machine/FixedGradient.lean ====
section
/-! DEFINITION. The fixed-gradient codecs BC1, BC2, BC3, BC4, BC4S, BC5, BC5S (`42_fixed_gradient.md`). Each takes the fields
of one block, writes the sixteen pixels and the scratch its pseudocode names, and ends with `finishBlock`. None sets BLKERR,
none raises a fault (R125). -/

namespace Sys2Proof.Machine

/-! ### Palettes -/

/-- A colour made opaque. -/
def opaquePixel (c : Rgb Byte) : Rgba Byte := ⟨c.r, c.g, c.b, 255⟩

/-- `(wa*a + wb*b) div d` on one 8-bit channel (`42_fixed_gradient.md` R129, R130). -/
def mixByte (wa wb d : Nat) (a b : Byte) : Byte := BitVec.ofNat 8 ((wa * a.toNat + wb * b.toNat) / d)

/-- The four-colour palette (`42_fixed_gradient.md` R129). -/
def fourColour (c0 c1 : BitVec 16) : List (Rgba Byte) :=
  let x := config.expand565 c0
  let y := config.expand565 c1
  [opaquePixel x, opaquePixel y, opaquePixel (x.map₂ (mixByte 2 1 3) y), opaquePixel (x.map₂ (mixByte 1 2 3) y)]

/-- The three-colour palette of BC1, its fourth entry all zero (`42_fixed_gradient.md` R130). -/
def threeColour (c0 c1 : BitVec 16) : List (Rgba Byte) :=
  let x := config.expand565 c0
  let y := config.expand565 c1
  [opaquePixel x, opaquePixel y, opaquePixel (x.map₂ (mixByte 1 1 2) y), ⟨0, 0, 0, 0⟩]

/-- The palette of a BC1 block: four colours when `C0 > C1` as unsigned words, else three (`42_fixed_gradient.md` R131). -/
def bc1Palette (c0 c1 : BitVec 16) : List (Rgba Byte) :=
  if c1.toNat < c0.toNat then fourColour c0 c1 else threeColour c0 c1

/-- `GRAD8U(E0, E1)` (`42_fixed_gradient.md` R133). -/
def grad8u (e0 e1 : Byte) : List Byte :=
  let a := e0.toNat
  let b := e1.toNat
  [e0, e1] ++
    if b < a then [2, 3, 4, 5, 6, 7].map fun k => BitVec.ofNat 8 (((8 - k) * a + (k - 1) * b) / 7)
    else ([2, 3, 4, 5].map fun k => BitVec.ofNat 8 (((6 - k) * a + (k - 1) * b) / 5)) ++ [0, 255]

/-- `rescale(n/d)`, from signed space to the output byte (`42_fixed_gradient.md` R149). -/
def rescale (n : Int) (d : Nat) : Byte :=
  BitVec.ofNat 8 ((510 * (n + 127 * d) + 254 * d) / (508 * d)).toNat

/-- `GRAD8S(E0, E1)`, after the clamp of `signedRef` (`42_fixed_gradient.md` R147). -/
def grad8s (a b : Int) : List Byte :=
  [rescale a 1, rescale b 1] ++
    if b < a then ([2, 3, 4, 5, 6, 7] : List Int).map fun k => rescale ((8 - k) * a + (k - 1) * b) 7
    else (([2, 3, 4, 5] : List Int).map fun k => rescale ((6 - k) * a + (k - 1) * b) 5) ++ [rescale (-127) 1, rescale 127 1]

/-! ### Pixels -/

/-- The colour of pixel `i` (`42_fixed_gradient.md` R131). -/
def colourAt (palc : List (Rgba Byte)) (sel : BitVec 32) (i : Nat) : Rgba Byte :=
  palc.getD (streamIndex 2 sel i) ⟨0, 0, 0, 0⟩

/-- The gradient value of pixel `i` (`42_fixed_gradient.md` R134). -/
def gradAt (palg : List Byte) (sel : BitVec 48) (i : Nat) : Byte := palg.getD (streamIndex 3 sel i) 0

/-- The pixels of BC1 (`42_fixed_gradient.md` R131). -/
def bc1Pixels (c0 c1 : BitVec 16) (sel : BitVec 32) : List Pixel :=
  pixelNos.map fun i => (colourAt (bc1Palette c0 c1) sel i).bytes

/-- The pixels of BC2: always four colours, alpha from the explicit grid (`42_fixed_gradient.md` R138, R139). -/
def bc2Pixels (alpha : BitVec 64) (c0 c1 : BitVec 16) (sel : BitVec 32) : List Pixel :=
  pixelNos.map fun i => { colourAt (fourColour c0 c1) sel i with a := explicitAlpha alpha i }.bytes

/-- The pixels of BC3: always four colours, alpha from the gradient (`42_fixed_gradient.md` R141, R139). -/
def bc3Pixels (e0 e1 : Byte) (asel : BitVec 48) (c0 c1 : BitVec 16) (sel : BitVec 32) : List Pixel :=
  pixelNos.map fun i => { colourAt (fourColour c0 c1) sel i with a := gradAt (grad8u e0 e1) asel i }.bytes

/-- The pixels of a one-channel block under a gradient palette (`42_fixed_gradient.md` R144, R148). -/
def oneChannelPixels (palg : List Byte) (sel : BitVec 48) : List Pixel :=
  pixelNos.map fun i => [gradAt palg sel i]

/-- The pixels of a two-channel block, blue the constant (`42_fixed_gradient.md` R150, R152). -/
def twoChannelPixels (pr : List Byte) (sr : BitVec 48) (pg : List Byte) (sg : BitVec 48) : List Pixel :=
  pixelNos.map fun i => [gradAt pr sr i, gradAt pg sg i, config.bc5Blue]

/-! ### Scratch writes -/

/-- C0, C1, SEL32, PALC written by the colour half (`42_fixed_gradient.md` R126, R129, R130). -/
def setColourHalf (c0 c1 : BitVec 16) (sel : BitVec 32) (palc : List (Rgba Byte)) (s : State) : State :=
  { s with scratch := { s.scratch with grad := { s.scratch.grad with c0 := c0, c1 := c1, sel32 := sel, palc := palc } } }

/-- E0, E1, SEL48, PALG written by a gradient half (`42_fixed_gradient.md` R134, R146). -/
def setGradHalf (e0 e1 : Int) (sel : BitVec 48) (palg : List Byte) (s : State) : State :=
  { s with scratch := { s.scratch with grad := { s.scratch.grad with e0 := e0, e1 := e1, sel48 := sel, palg := palg } } }

/-- ALPHA64 written by the alpha grid (`42_fixed_gradient.md` R136). -/
def setAlphaGrid (alpha : BitVec 64) (s : State) : State :=
  { s with scratch := { s.scratch with grad := { s.scratch.grad with alpha64 := alpha } } }

/-! ### The instructions -/

/-- BC1 (`42_fixed_gradient.md` R131). -/
def execBc1 (c0 c1 : BitVec 16) (sel : BitVec 32) (s : State) : Result :=
  finishBlock .bc1 ⟨bc1Pixels c0 c1 sel, false⟩ (setColourHalf c0 c1 sel (bc1Palette c0 c1) s)

/-- BC2 (`42_fixed_gradient.md` R138). -/
def execBc2 (alpha : BitVec 64) (c0 c1 : BitVec 16) (sel : BitVec 32) (s : State) : Result :=
  finishBlock .bc2 ⟨bc2Pixels alpha c0 c1 sel, false⟩ (setColourHalf c0 c1 sel (fourColour c0 c1) (setAlphaGrid alpha s))

/-- BC3 (`42_fixed_gradient.md` R141). -/
def execBc3 (e0 e1 : BitVec 8) (asel : BitVec 48) (c0 c1 : BitVec 16) (sel : BitVec 32) (s : State) : Result :=
  finishBlock .bc3 ⟨bc3Pixels e0 e1 asel c0 c1 sel, false⟩
    (setColourHalf c0 c1 sel (fourColour c0 c1) (setGradHalf e0.toNat e1.toNat asel (grad8u e0 e1) s))

/-- BC4 (`42_fixed_gradient.md` R144). -/
def execBc4 (e0 e1 : BitVec 8) (sel : BitVec 48) (s : State) : Result :=
  finishBlock .bc4 ⟨oneChannelPixels (grad8u e0 e1) sel, false⟩ (setGradHalf e0.toNat e1.toNat sel (grad8u e0 e1) s)

/-- BC4S (`42_fixed_gradient.md` R148). -/
def execBc4s (e0 e1 : BitVec 8) (sel : BitVec 48) (s : State) : Result :=
  let palg := grad8s (signedRef e0) (signedRef e1)
  finishBlock .bc4s ⟨oneChannelPixels palg sel, false⟩ (setGradHalf (signedRef e0) (signedRef e1) sel palg s)

/-- BC5 (`42_fixed_gradient.md` R150). E0, E1, SEL48, PALG are written by the red half, then by the green (log entry 7). -/
def execBc5 (re0 re1 : BitVec 8) (rsel : BitVec 48) (ge0 ge1 : BitVec 8) (gsel : BitVec 48) (s : State) : Result :=
  let pr := grad8u re0 re1
  let pg := grad8u ge0 ge1
  finishBlock .bc5 ⟨twoChannelPixels pr rsel pg gsel, false⟩
    (setGradHalf ge0.toNat ge1.toNat gsel pg (setGradHalf re0.toNat re1.toNat rsel pr s))

/-- BC5S (`42_fixed_gradient.md` R152), scratch as BC5 (log entry 7). -/
def execBc5s (re0 re1 : BitVec 8) (rsel : BitVec 48) (ge0 ge1 : BitVec 8) (gsel : BitVec 48) (s : State) : Result :=
  let pr := grad8s (signedRef re0) (signedRef re1)
  let pg := grad8s (signedRef ge0) (signedRef ge1)
  finishBlock .bc5s ⟨twoChannelPixels pr rsel pg gsel, false⟩
    (setGradHalf (signedRef ge0) (signedRef ge1) gsel pg (setGradHalf (signedRef re0) (signedRef re1) rsel pr s))

end Sys2Proof.Machine
end

