-- ==== Sys2Proof/Machine/Resolver.lean ====
section
/-! DEFINITION. The container header parser and the format resolver (`46_resolver.md`): the header part of RESOLVE, and the
meanings of the FourCC and enumerant codes that end it. -/

namespace Sys2Proof.Machine

/-! ### The header -/

/-- All twenty header words, each at its offset; the reserved words are not read (`30_encoding.md` R71, `46_resolver.md`
R239). -/
def loadHeader (s : State) : Option Header := do
  let magic ← srcWord s 0
  let size ← srcWord s 4
  let flags ← srcWord s 8
  let height ← srcWord s 12
  let width ← srcWord s 16
  let pitch ← srcWord s 20
  let depth ← srcWord s 24
  let mips ← srcWord s 28
  let pfSize ← srcWord s 76
  let pfFlags ← srcWord s 80
  let pfFourcc ← srcWord s 84
  let pfBitcount ← srcWord s 88
  let pfRmask ← srcWord s 92
  let pfGmask ← srcWord s 96
  let pfBmask ← srcWord s 100
  let pfAmask ← srcWord s 104
  let caps ← srcWord s 108
  let caps2 ← srcWord s 112
  let caps3 ← srcWord s 116
  let caps4 ← srcWord s 120
  some { magic, size, flags, height, width, pitch, depth, mips, pfSize, pfFlags, pfFourcc, pfBitcount,
         pfRmask, pfGmask, pfBmask, pfAmask, caps, caps2, caps3, caps4 }

/-- The five words of the extended header (`30_encoding.md` R72). -/
def loadExtHeader (s : State) : Option ExtHeader := do
  let format ← srcWord s 128
  let dim ← srcWord s 132
  let misc ← srcWord s 136
  let array ← srcWord s 140
  let misc2 ← srcWord s 144
  some { format, dim, misc, array, misc2 }

/-- The checks of a loaded header, in their order; none when it passes to the dispatch (`46_resolver.md` R240, R241, R242,
R244, R248). -/
def headerFault (h : Header) : Option (FaultClass × Word) :=
  if h.magic ≠ 0x20534444 then some (.malformedContainer, 2)
  else if config.checkSizes = true ∧ (h.size ≠ 124 ∨ h.pfSize ≠ 32) then some (.malformedContainer, 3)
  else if h.width = 0 ∨ h.height = 0 then some (.malformedContainer, 4)
  else if h.pfFlags.getLsbD 2 = false then some (.unsupportedFormat, h.pfFlags)
  else none

/-- RESOLVE up to the FourCC dispatch (`46_resolver.md` R237): clear, length check (R238), header load (R239), checks. -/
def resolveHeader (s : State) : Result :=
  let s₀ := clearForResolve s
  if s₀.srcLen < 128 then .next (raise .malformedContainer 1 s₀)
  else
    match loadHeader s₀ with
    | none => .fault .memReadOutOfRange
    | some h =>
      let s₁ := { s₀ with hdr := h }
      match headerFault h with
      | some (f, info) => .next (raise f info s₁)
      | none => .next { s₁ with phase := .fourcc }

/-! ### The dispatch codes -/

/-- A codec found: FMT, SRCOFF at the payload, LW, LH, LEVEL preset to level 0, STATE READY, the command done
(`46_resolver.md` R237, R247). -/
def selectFormat (f : Fmt) (payload : Nat) (s : State) : State :=
  { s with fmt := f, srcOff := payload, lw := s.hdr.width, lh := s.hdr.height, level := 0, unit := .ready,
           phase := .waiting }

/-- A code with no codec (`46_resolver.md` R245, R246): the fault records the code. -/
def unsupported (code : Word) (s : State) : Result := .next (raise .unsupportedFormat code s)

/-- The sentinel: the extended header is parsed and its enumerant dispatched next; a short one is malformed, cause 5
(`46_resolver.md` R237, R243). -/
def parseExtHeader (s : State) : Result :=
  if s.srcLen < 148 then .next (raise .malformedContainer 5 s)
  else
    match loadExtHeader s with
    | none => .fault .memReadOutOfRange
    | some x => .next { s with ext := some x, phase := .xfmt }

/-- FOURCC.DXT1 (`30_encoding.md` R73, `46_resolver.md` R245). -/
def execFourccDxt1 (s : State) : Result := .next (selectFormat .bc1 128 s)

/-- FOURCC.DXT2 (`30_encoding.md` R73, `46_resolver.md` R245). -/
def execFourccDxt2 (s : State) : Result := unsupported 0x32545844 s

/-- FOURCC.DXT3 (`30_encoding.md` R73, `46_resolver.md` R245). -/
def execFourccDxt3 (s : State) : Result := .next (selectFormat .bc2 128 s)

/-- FOURCC.DXT4 (`30_encoding.md` R73, `46_resolver.md` R245). -/
def execFourccDxt4 (s : State) : Result := unsupported 0x34545844 s

/-- FOURCC.DXT5 (`30_encoding.md` R73, `46_resolver.md` R245). -/
def execFourccDxt5 (s : State) : Result := .next (selectFormat .bc3 128 s)

/-- FOURCC.ATI1 (`30_encoding.md` R73, `46_resolver.md` R245). -/
def execFourccAti1 (s : State) : Result := .next (selectFormat .bc4 128 s)

/-- FOURCC.BC4U (`30_encoding.md` R73, `46_resolver.md` R245). -/
def execFourccBc4u (s : State) : Result := .next (selectFormat .bc4 128 s)

/-- FOURCC.BC4S (`30_encoding.md` R73, `46_resolver.md` R245). -/
def execFourccBc4s (s : State) : Result := .next (selectFormat .bc4s 128 s)

/-- FOURCC.ATI2 (`30_encoding.md` R73, `46_resolver.md` R245). -/
def execFourccAti2 (s : State) : Result := .next (selectFormat .bc5 128 s)

/-- FOURCC.BC5U (`30_encoding.md` R73, `46_resolver.md` R245). -/
def execFourccBc5u (s : State) : Result := .next (selectFormat .bc5 128 s)

/-- FOURCC.BC5S (`30_encoding.md` R73, `46_resolver.md` R245). -/
def execFourccBc5s (s : State) : Result := .next (selectFormat .bc5s 128 s)

/-- FOURCC.DX10 (`30_encoding.md` R73, `46_resolver.md` R237, R243). -/
def execFourccDx10 (s : State) : Result := parseExtHeader s

/-- FOURCC.other (`46_resolver.md` R245). -/
def execFourccOther (w : Word) (s : State) : Result := unsupported w s

/-- XFMT.70 (`30_encoding.md` R74, `46_resolver.md` R246). -/
def execXfmt70 (s : State) : Result := .next (selectFormat .bc1 148 s)

/-- XFMT.71 (`30_encoding.md` R74, `46_resolver.md` R246). -/
def execXfmt71 (s : State) : Result := .next (selectFormat .bc1 148 s)

/-- XFMT.72 (`30_encoding.md` R74, `46_resolver.md` R246). -/
def execXfmt72 (s : State) : Result := .next (selectFormat .bc1 148 s)

/-- XFMT.73 (`30_encoding.md` R74, `46_resolver.md` R246). -/
def execXfmt73 (s : State) : Result := .next (selectFormat .bc2 148 s)

/-- XFMT.74 (`30_encoding.md` R74, `46_resolver.md` R246). -/
def execXfmt74 (s : State) : Result := .next (selectFormat .bc2 148 s)

/-- XFMT.75 (`30_encoding.md` R74, `46_resolver.md` R246). -/
def execXfmt75 (s : State) : Result := .next (selectFormat .bc2 148 s)

/-- XFMT.76 (`30_encoding.md` R74, `46_resolver.md` R246). -/
def execXfmt76 (s : State) : Result := .next (selectFormat .bc3 148 s)

/-- XFMT.77 (`30_encoding.md` R74, `46_resolver.md` R246). -/
def execXfmt77 (s : State) : Result := .next (selectFormat .bc3 148 s)

/-- XFMT.78 (`30_encoding.md` R74, `46_resolver.md` R246). -/
def execXfmt78 (s : State) : Result := .next (selectFormat .bc3 148 s)

/-- XFMT.79 (`30_encoding.md` R74, `46_resolver.md` R246). -/
def execXfmt79 (s : State) : Result := .next (selectFormat .bc4 148 s)

/-- XFMT.80 (`30_encoding.md` R74, `46_resolver.md` R246). -/
def execXfmt80 (s : State) : Result := .next (selectFormat .bc4 148 s)

/-- XFMT.81 (`30_encoding.md` R74, `46_resolver.md` R246). -/
def execXfmt81 (s : State) : Result := .next (selectFormat .bc4s 148 s)

/-- XFMT.82 (`30_encoding.md` R74, `46_resolver.md` R246). -/
def execXfmt82 (s : State) : Result := .next (selectFormat .bc5 148 s)

/-- XFMT.83 (`30_encoding.md` R74, `46_resolver.md` R246). -/
def execXfmt83 (s : State) : Result := .next (selectFormat .bc5 148 s)

/-- XFMT.84 (`30_encoding.md` R74, `46_resolver.md` R246). -/
def execXfmt84 (s : State) : Result := .next (selectFormat .bc5s 148 s)

/-- XFMT.94 (`30_encoding.md` R74, `46_resolver.md` R246). -/
def execXfmt94 (s : State) : Result := .next (selectFormat .bc6h 148 s)

/-- XFMT.95 (`30_encoding.md` R74, `46_resolver.md` R246). -/
def execXfmt95 (s : State) : Result := .next (selectFormat .bc6h 148 s)

/-- XFMT.96 (`30_encoding.md` R74, `46_resolver.md` R246). -/
def execXfmt96 (s : State) : Result := unsupported 96 s

/-- XFMT.97 (`30_encoding.md` R74, `46_resolver.md` R246). -/
def execXfmt97 (s : State) : Result := .next (selectFormat .bc7 148 s)

/-- XFMT.98 (`30_encoding.md` R74, `46_resolver.md` R246). -/
def execXfmt98 (s : State) : Result := .next (selectFormat .bc7 148 s)

/-- XFMT.99 (`30_encoding.md` R74, `46_resolver.md` R246). -/
def execXfmt99 (s : State) : Result := .next (selectFormat .bc7 148 s)

/-- XFMT.other (`46_resolver.md` R246). -/
def execXfmtOther (w : Word) (s : State) : Result := unsupported w s

end Sys2Proof.Machine
end

