-- ==== Sys2Proof/Machine/Sequencer.lean ====
section
/-! DEFINITION. The block iteration framework (`41_block_iteration.md`): block fetch, the walk over a level, trim and append,
and the instructions a command runs inside itself (blocks and dispatch codes). -/

namespace Sys2Proof.Machine

/-! ### Instructions inside a command -/

/-- The meaning of an instruction a command meets inside itself: a block (`41_block_iteration.md` R120) or a dispatch code
(`46_resolver.md` R245, R246). `exec` calls the same meanings; a host command never stands inside a command. -/
def execInner (i : Instr) (s : State) : Result :=
  match i with
  | .bc1 c0 c1 sel => execBc1 c0 c1 sel s
  | .bc2 alpha c0 c1 sel => execBc2 alpha c0 c1 sel s
  | .bc3 e0 e1 asel c0 c1 sel => execBc3 e0 e1 asel c0 c1 sel s
  | .bc4 e0 e1 sel => execBc4 e0 e1 sel s
  | .bc4s e0 e1 sel => execBc4s e0 e1 sel s
  | .bc5 re0 re1 rsel ge0 ge1 gsel => execBc5 re0 re1 rsel ge0 ge1 gsel s
  | .bc5s re0 re1 rsel ge0 ge1 gsel => execBc5s re0 re1 rsel ge0 ge1 gsel s
  | .bc6hM1 header indices => execBc6hM1 header indices s
  | .bc6hM2 header indices => execBc6hM2 header indices s
  | .bc6hM3 header indices => execBc6hM3 header indices s
  | .bc6hM4 header indices => execBc6hM4 header indices s
  | .bc6hM5 header indices => execBc6hM5 header indices s
  | .bc6hM6 header indices => execBc6hM6 header indices s
  | .bc6hM7 header indices => execBc6hM7 header indices s
  | .bc6hM8 header indices => execBc6hM8 header indices s
  | .bc6hM9 header indices => execBc6hM9 header indices s
  | .bc6hM10 header indices => execBc6hM10 header indices s
  | .bc6hM11 header indices => execBc6hM11 header indices s
  | .bc6hM12 header indices => execBc6hM12 header indices s
  | .bc6hM13 header indices => execBc6hM13 header indices s
  | .bc6hM14 header indices => execBc6hM14 header indices s
  | .bc6hRsv13 ignored => execBc6hRsv13 ignored s
  | .bc6hRsv17 ignored => execBc6hRsv17 ignored s
  | .bc6hRsv1B ignored => execBc6hRsv1B ignored s
  | .bc6hRsv1F ignored => execBc6hRsv1F ignored s
  | .bc7M0 shape r g b pbits primary => execBc7M0 shape r g b pbits primary s
  | .bc7M1 shape r g b pbits primary => execBc7M1 shape r g b pbits primary s
  | .bc7M2 shape r g b primary => execBc7M2 shape r g b primary s
  | .bc7M3 shape r g b pbits primary => execBc7M3 shape r g b pbits primary s
  | .bc7M4 rot isel r g b a primary secondary => execBc7M4 rot isel r g b a primary secondary s
  | .bc7M5 rot r g b a primary secondary => execBc7M5 rot r g b a primary secondary s
  | .bc7M6 r g b a pbits primary => execBc7M6 r g b a pbits primary s
  | .bc7M7 shape r g b a pbits primary => execBc7M7 shape r g b a pbits primary s
  | .bc7Rsv ignored => execBc7Rsv ignored s
  | .fourccDxt1 => execFourccDxt1 s
  | .fourccDxt2 => execFourccDxt2 s
  | .fourccDxt3 => execFourccDxt3 s
  | .fourccDxt4 => execFourccDxt4 s
  | .fourccDxt5 => execFourccDxt5 s
  | .fourccAti1 => execFourccAti1 s
  | .fourccBc4u => execFourccBc4u s
  | .fourccBc4s => execFourccBc4s s
  | .fourccAti2 => execFourccAti2 s
  | .fourccBc5u => execFourccBc5u s
  | .fourccBc5s => execFourccBc5s s
  | .fourccDx10 => execFourccDx10 s
  | .fourccOther w => execFourccOther w s
  | .xfmt70 => execXfmt70 s
  | .xfmt71 => execXfmt71 s
  | .xfmt72 => execXfmt72 s
  | .xfmt73 => execXfmt73 s
  | .xfmt74 => execXfmt74 s
  | .xfmt75 => execXfmt75 s
  | .xfmt76 => execXfmt76 s
  | .xfmt77 => execXfmt77 s
  | .xfmt78 => execXfmt78 s
  | .xfmt79 => execXfmt79 s
  | .xfmt80 => execXfmt80 s
  | .xfmt81 => execXfmt81 s
  | .xfmt82 => execXfmt82 s
  | .xfmt83 => execXfmt83 s
  | .xfmt84 => execXfmt84 s
  | .xfmt94 => execXfmt94 s
  | .xfmt95 => execXfmt95 s
  | .xfmt96 => execXfmt96 s
  | .xfmt97 => execXfmt97 s
  | .xfmt98 => execXfmt98 s
  | .xfmt99 => execXfmt99 s
  | .xfmtOther w => execXfmtOther w s
  | .cmdNop => .fault .nestedCommand
  | .cmdResolve => .fault .nestedCommand
  | .cmdLevel => .fault .nestedCommand
  | .cmdChain => .fault .nestedCommand
  | .cmdReset => .fault .nestedCommand
  | .cmdRsv5 => .fault .nestedCommand
  | .cmdRsv6 => .fault .nestedCommand
  | .cmdRsv7 => .fault .nestedCommand

/-! ### Block fetch -/

/-- Block fetch: BLK loaded with `cbpb` bytes at SRCOFF, BITPOS 0, the block decoded under FMT
(`41_block_iteration.md` R115, R120). -/
def fetchBlock (s : State) : Except Fault (Instr × State) :=
  if s.fmt = .none then .error .noFormat
  else
    match memRead s s.srcOff (blockBytes s.fmt) with
    | none => .error .memReadOutOfRange
    | some bs =>
      match decode (.block s.fmt) bs with
      | .ok (i, _) =>
        .ok (i, { s with scratch := { s.scratch with blk := overwrite s.scratch.blk bs, bitpos := 0 } })
      | .error _ => .error .noFormat

/-! ### The walk -/

/-- Whether an offset or size fits OFF_BITS (`00_scope.md` R6, `93_implementation_defined.md` U14). -/
def offFits (n : Nat) : Bool :=
  match config.offBits with
  | none => true
  | some b => n < 2 ^ b

/-- Blocks per row or column (`41_block_iteration.md` R111). -/
def blocksAcross (n : Nat) : Nat := (n + 3) / 4

/-- BWIDE, BHIGH, STRIDE from LW and LH (`41_block_iteration.md` R111). -/
def setGrid (s : State) : State :=
  { s with seq := { s.seq with bwide := blocksAcross s.lw.toNat, bhigh := blocksAcross s.lh.toNat,
                               stride := blocksAcross s.lw.toNat * 4 } }

/-- LEVELSIZE (`41_block_iteration.md` R112). -/
def levelSize (s : State) : Nat := s.seq.bwide * s.seq.bhigh * blockBytes s.fmt

/-- Bytes of PAD (`10_state.md` R26, `41_block_iteration.md` R113). -/
def padSize (s : State) : Nat := s.seq.bhigh * 4 * (s.seq.bwide * 4) * outBytes s.fmt

/-- The level size check (`41_block_iteration.md` R112); a size beyond OFF_BITS is truncated too (U14). -/
def levelTruncated (s : State) : Bool :=
  s.srcLen < s.srcOff + levelSize s || !offFits (s.srcOff + levelSize s) || !offFits (padSize s)

/-- PAD allocated, zero filled, and the walk at its first block (`41_block_iteration.md` R113, R114). -/
def allocPad (p : Phase) (s : State) : State :=
  { s with pad := some (List.replicate (padSize s) 0),
           seq := { s.seq with bx := 0, by_ := 0, outOff := 0, rowStart := 0 }, phase := p }

/-- The start of a level: grid, size check, allocation (`41_block_iteration.md` R111-R113). `p` is the phase of the blocks,
LEVEL's or CHAIN's. -/
def levelStart (p : Phase) (s : State) : Result :=
  if s.fmt = .none then .fault .noFormat
  else
    let s₁ := setGrid s
    if levelTruncated s₁ then .next (raise .truncatedStream s.level s₁) else .next (allocPad p s₁)

/-- One block on: the next block of the row, or the first of the next row (`41_block_iteration.md` R114). -/
def advanceBlock (s : State) : State :=
  let q := s.seq
  if q.bx + 1 < q.bwide then
    { s with seq := { q with bx := q.bx + 1, outOff := q.outOff + 4 * outBytes s.fmt } }
  else
    let next := q.rowStart + q.stride * outBytes s.fmt * 4
    { s with seq := { q with bx := 0, by_ := q.by_ + 1, outOff := next, rowStart := next } }

/-- One block: fetch, codec, store, walk on (`41_block_iteration.md` R114-R116). -/
def blockStep (s : State) : Result :=
  match fetchBlock s with
  | .error f => .fault f
  | .ok (i, s₁) => andThen (execInner i s₁) fun t => .next (advanceBlock t)

/-- So many blocks. -/
def runBlocks : Nat → State → Result
  | 0, s => .next s
  | n + 1, s => andThen (blockStep s) (runBlocks n)

/-- Trim and append: the level's record, PAD discarded, STATE unchanged (`41_block_iteration.md` R118, R119). A trim that
would leave PAD is the model fault. -/
def levelFinish (s : State) : Result :=
  match s.pad with
  | none => .fault .padOutOfRange
  | some pad =>
    let bytes := trim pad s.seq.stride (outBytes s.fmt) s.lw.toNat s.lh.toNat
    if bytes.length = s.lw.toNat * s.lh.toNat * outBytes s.fmt then
      .next { s with outq := s.outq ++ [⟨s.level, s.lw, s.lh, s.fmt, bytes⟩], pad := none, phase := .waiting }
    else .fault .padOutOfRange

/-- `LEVEL_body` (`41_block_iteration.md` R114): a truncated level ends the command before any block. -/
def levelBody (p : Phase) (s : State) : Result :=
  andThen (levelStart p s) fun t =>
    if t.phase = .waiting then .next t
    else andThen (runBlocks (t.seq.bwide * t.seq.bhigh) t) levelFinish

/-! ### The mip chain -/

/-- The number of levels of a chain, `max(1, H_MIPS)` (`46_resolver.md` R250). -/
def chainLength (s : State) : Nat := max 1 s.hdr.mips.toNat

/-- A dimension of level `k`: `max(1, W >> k)` (`46_resolver.md` R253). -/
def mipDim (w : Word) (k : Nat) : Word := if w >>> k = 0 then 1 else w >>> k

/-- LEVEL, LW, LH of level `k` of a chain (`46_resolver.md` R250). -/
def setLevel (k : Nat) (s : State) : State :=
  { s with level := BitVec.ofNat 32 k, lw := mipDim s.hdr.width k, lh := mipDim s.hdr.height k }

/-- So many levels of a chain from level `k`; a fault ends the command (`46_resolver.md` R250, `60_exceptions.md` R270). -/
def chainLoop : Nat → Nat → State → Result
  | 0, _, s => .next s
  | n + 1, k, s =>
    andThen (levelBody .chain (setLevel k s)) fun t => if t.unit = .faulted then .next t else chainLoop n (k + 1) t

/-! ### The resolver's dispatch -/

/-- The dispatch code the resolver stands at, run; nothing outside the two dispatch phases (`46_resolver.md` R237). -/
def codeStep (s : State) : Result :=
  match s.phase with
  | .fourcc => execInner (decodeFourcc s.hdr.pfFourcc) s
  | .xfmt => execInner (decodeXfmt (s.ext.getD {}).format) s
  | .waiting | .level | .chain => .next s

end Sys2Proof.Machine
end

