-- ==== Sys2Proof/Machine/Commands.lean ====
section
/-! DEFINITION. The host commands (`46_resolver.md`). Each is performed whole, atomic for the host (R235, `20_memory.md` R58).
A command is one step of the machine (log entry 2). The register CMD is written by the host, before its command starts. -/

namespace Sys2Proof.Machine

/-- NOP (`46_resolver.md` R236). -/
def execCmdNop (s : State) : Result := .next s

/-- RESOLVE (`46_resolver.md` R237): the header, then the FourCC dispatch, then the enumerant dispatch where the sentinel
leads there. -/
def execCmdResolve (s : State) : Result := andThen (andThen (resolveHeader s) codeStep) codeStep

/-- LEVEL (`46_resolver.md` R249); ignored outside READY and with a zero dimension (R254). -/
def execCmdLevel (s : State) : Result :=
  if s.unit ≠ .ready ∨ s.lw = 0 ∨ s.lh = 0 then .next s else levelBody .level s

/-- CHAIN (`46_resolver.md` R250); ignored outside READY (R254). -/
def execCmdChain (s : State) : Result := if s.unit ≠ .ready then .next s else chainLoop (chainLength s) 0 s

/-- RESET (`46_resolver.md` R252). -/
def execCmdReset (s : State) : Result := .next (resetUnit s)

/-- Reserved code 5: ignored (`46_resolver.md` R254). -/
def execCmdRsv5 (s : State) : Result := .next s

/-- Reserved code 6: ignored (`46_resolver.md` R254). -/
def execCmdRsv6 (s : State) : Result := .next s

/-- Reserved code 7: ignored (`46_resolver.md` R254). -/
def execCmdRsv7 (s : State) : Result := .next s

end Sys2Proof.Machine
end

