-- ==== Sys2Proof/Machine/Dispatch.lean ====
section
/-! DEFINITION. One arm per constructor of Instr: the meaning of every instruction. -/

namespace Sys2Proof.Machine

def exec (i : Instr) (s : State) : Host.Outcome State Fault Refusal :=
  match i with
  | .bc1 c0 c1 sel => Sys2Proof.Machine.execBc1 c0 c1 sel s
  | .bc2 alpha c0 c1 sel => Sys2Proof.Machine.execBc2 alpha c0 c1 sel s
  | .bc3 e0 e1 asel c0 c1 sel => Sys2Proof.Machine.execBc3 e0 e1 asel c0 c1 sel s
  | .bc4 e0 e1 sel => Sys2Proof.Machine.execBc4 e0 e1 sel s
  | .bc4s e0 e1 sel => Sys2Proof.Machine.execBc4s e0 e1 sel s
  | .bc5 re0 re1 rsel ge0 ge1 gsel => Sys2Proof.Machine.execBc5 re0 re1 rsel ge0 ge1 gsel s
  | .bc5s re0 re1 rsel ge0 ge1 gsel => Sys2Proof.Machine.execBc5s re0 re1 rsel ge0 ge1 gsel s
  | .bc6hM1 header indices => Sys2Proof.Machine.execBc6hM1 header indices s
  | .bc6hM2 header indices => Sys2Proof.Machine.execBc6hM2 header indices s
  | .bc6hM3 header indices => Sys2Proof.Machine.execBc6hM3 header indices s
  | .bc6hM4 header indices => Sys2Proof.Machine.execBc6hM4 header indices s
  | .bc6hM5 header indices => Sys2Proof.Machine.execBc6hM5 header indices s
  | .bc6hM6 header indices => Sys2Proof.Machine.execBc6hM6 header indices s
  | .bc6hM7 header indices => Sys2Proof.Machine.execBc6hM7 header indices s
  | .bc6hM8 header indices => Sys2Proof.Machine.execBc6hM8 header indices s
  | .bc6hM9 header indices => Sys2Proof.Machine.execBc6hM9 header indices s
  | .bc6hM10 header indices => Sys2Proof.Machine.execBc6hM10 header indices s
  | .bc6hM11 header indices => Sys2Proof.Machine.execBc6hM11 header indices s
  | .bc6hM12 header indices => Sys2Proof.Machine.execBc6hM12 header indices s
  | .bc6hM13 header indices => Sys2Proof.Machine.execBc6hM13 header indices s
  | .bc6hM14 header indices => Sys2Proof.Machine.execBc6hM14 header indices s
  | .bc6hRsv13 ignored => Sys2Proof.Machine.execBc6hRsv13 ignored s
  | .bc6hRsv17 ignored => Sys2Proof.Machine.execBc6hRsv17 ignored s
  | .bc6hRsv1B ignored => Sys2Proof.Machine.execBc6hRsv1B ignored s
  | .bc6hRsv1F ignored => Sys2Proof.Machine.execBc6hRsv1F ignored s
  | .bc7M0 shape r g b pbits primary => Sys2Proof.Machine.execBc7M0 shape r g b pbits primary s
  | .bc7M1 shape r g b pbits primary => Sys2Proof.Machine.execBc7M1 shape r g b pbits primary s
  | .bc7M2 shape r g b primary => Sys2Proof.Machine.execBc7M2 shape r g b primary s
  | .bc7M3 shape r g b pbits primary => Sys2Proof.Machine.execBc7M3 shape r g b pbits primary s
  | .bc7M4 rot isel r g b a primary secondary => Sys2Proof.Machine.execBc7M4 rot isel r g b a primary secondary s
  | .bc7M5 rot r g b a primary secondary => Sys2Proof.Machine.execBc7M5 rot r g b a primary secondary s
  | .bc7M6 r g b a pbits primary => Sys2Proof.Machine.execBc7M6 r g b a pbits primary s
  | .bc7M7 shape r g b a pbits primary => Sys2Proof.Machine.execBc7M7 shape r g b a pbits primary s
  | .bc7Rsv ignored => Sys2Proof.Machine.execBc7Rsv ignored s
  | .fourccDxt1 => Sys2Proof.Machine.execFourccDxt1 s
  | .fourccDxt2 => Sys2Proof.Machine.execFourccDxt2 s
  | .fourccDxt3 => Sys2Proof.Machine.execFourccDxt3 s
  | .fourccDxt4 => Sys2Proof.Machine.execFourccDxt4 s
  | .fourccDxt5 => Sys2Proof.Machine.execFourccDxt5 s
  | .fourccAti1 => Sys2Proof.Machine.execFourccAti1 s
  | .fourccBc4u => Sys2Proof.Machine.execFourccBc4u s
  | .fourccBc4s => Sys2Proof.Machine.execFourccBc4s s
  | .fourccAti2 => Sys2Proof.Machine.execFourccAti2 s
  | .fourccBc5u => Sys2Proof.Machine.execFourccBc5u s
  | .fourccBc5s => Sys2Proof.Machine.execFourccBc5s s
  | .fourccDx10 => Sys2Proof.Machine.execFourccDx10 s
  | .fourccOther w => Sys2Proof.Machine.execFourccOther w s
  | .xfmt70 => Sys2Proof.Machine.execXfmt70 s
  | .xfmt71 => Sys2Proof.Machine.execXfmt71 s
  | .xfmt72 => Sys2Proof.Machine.execXfmt72 s
  | .xfmt73 => Sys2Proof.Machine.execXfmt73 s
  | .xfmt74 => Sys2Proof.Machine.execXfmt74 s
  | .xfmt75 => Sys2Proof.Machine.execXfmt75 s
  | .xfmt76 => Sys2Proof.Machine.execXfmt76 s
  | .xfmt77 => Sys2Proof.Machine.execXfmt77 s
  | .xfmt78 => Sys2Proof.Machine.execXfmt78 s
  | .xfmt79 => Sys2Proof.Machine.execXfmt79 s
  | .xfmt80 => Sys2Proof.Machine.execXfmt80 s
  | .xfmt81 => Sys2Proof.Machine.execXfmt81 s
  | .xfmt82 => Sys2Proof.Machine.execXfmt82 s
  | .xfmt83 => Sys2Proof.Machine.execXfmt83 s
  | .xfmt84 => Sys2Proof.Machine.execXfmt84 s
  | .xfmt94 => Sys2Proof.Machine.execXfmt94 s
  | .xfmt95 => Sys2Proof.Machine.execXfmt95 s
  | .xfmt96 => Sys2Proof.Machine.execXfmt96 s
  | .xfmt97 => Sys2Proof.Machine.execXfmt97 s
  | .xfmt98 => Sys2Proof.Machine.execXfmt98 s
  | .xfmt99 => Sys2Proof.Machine.execXfmt99 s
  | .xfmtOther w => Sys2Proof.Machine.execXfmtOther w s
  | .cmdNop => Sys2Proof.Machine.execCmdNop s
  | .cmdResolve => Sys2Proof.Machine.execCmdResolve s
  | .cmdLevel => Sys2Proof.Machine.execCmdLevel s
  | .cmdChain => Sys2Proof.Machine.execCmdChain s
  | .cmdReset => Sys2Proof.Machine.execCmdReset s
  | .cmdRsv5 => Sys2Proof.Machine.execCmdRsv5 s
  | .cmdRsv6 => Sys2Proof.Machine.execCmdRsv6 s
  | .cmdRsv7 => Sys2Proof.Machine.execCmdRsv7 s

end Sys2Proof.Machine
end

