-- ==== Sys2Proof/Machine/Fetch.lean ====
section
/-! DEFINITION. What a step fetches and what it adds around `exec`: the host's pending actions, the dispatch registers, the
block at SRCOFF; the walk after a block that a step runs by itself; and how an instruction is placed where a step fetches
it. -/

namespace Sys2Proof.Machine

/-- What a step finds to do. -/
inductive Fetched where
  /-- no command executes and the host asks for nothing: the unit waits (`60_exceptions.md` R284) -/
  | nothing
  /-- a host write that starts no command, and the state without it pending -/
  | action (a : HostAction) (s : State)
  /-- an instruction, and the state it runs in -/
  | instr (i : Instr) (s : State)
  deriving DecidableEq, Repr

/-- A command code of the host: CMD is written, its command runs next (`46_resolver.md` R235). CMD holds 3 bits (log
entry 9). -/
def fetchAction (a : HostAction) (s : State) : Fetched :=
  match a with
  | .writeSrc addr bs => .action (.writeSrc addr bs) s
  | .writeReg no value =>
    if no = 0 then .instr (decodeCmd (BitVec.ofNat 3 value)) { s with cmd := BitVec.ofNat 3 value }
    else .action (.writeReg no value) s

/-- The fetch. Host actions land only while no command executes (`46_resolver.md` R255). -/
def fetch (s : State) : Except Fault Fetched :=
  match s.phase with
  | .waiting =>
    match s.host with
    | [] => .ok .nothing
    | a :: rest => .ok (fetchAction a { s with host := rest })
  | .fourcc => .ok (.instr (decodeFourcc s.hdr.pfFourcc) s)
  | .xfmt => .ok (.instr (decodeXfmt (s.ext.getD {}).format) s)
  | .level | .chain =>
    match fetchBlock s with
    | .ok (i, t) => .ok (.instr i t)
    | .error f => .error f

/-- A host write that starts no command (`46_resolver.md` R255). -/
def hostAct (a : HostAction) (s : State) : Result :=
  match a with
  | .writeSrc addr bs => hostWriteSrc addr bs s
  | .writeReg no value => hostWriteReg no value s

/-- What follows the last block of a level: trim and append, then, in a chain with levels left, the start of the next one
(`41_block_iteration.md` R114, `46_resolver.md` R250). -/
def endLevel (p : Phase) (s : State) : Result :=
  andThen (levelFinish s) fun t =>
    if p = .chain ∧ t.level.toNat + 1 < chainLength t then levelStart .chain (setLevel (t.level.toNat + 1) t) else .next t

/-- What a step adds after an instruction: after a block, the walk (`41_block_iteration.md` R114). -/
def retire (p : Phase) (s : State) : Result :=
  if p = .level ∨ p = .chain then
    let t := advanceBlock s
    if t.seq.by_ < t.seq.bhigh then .next t else endLevel p t
  else .next s

/-- A one-block level of a codec whose block, at SRCOFF, is fetched next (log entry 13). -/
def placeBlock (f : Fmt) (v : Nat) (s : State) : State :=
  { s with
    src := Memory.writeBytes s.src s.srcOff (leBytes (blockBytes f) v)
    srcLen := max s.srcLen (s.srcOff + blockBytes f)
    fmt := f, unit := .ready, fault := .none, faultInfo := 0, lw := 4, lh := 4
    pad := some (List.replicate (16 * outBytes f) 0)
    seq := { bwide := 1, bhigh := 1, bx := 0, by_ := 0, outOff := 0, stride := 4, rowStart := 0 }
    phase := .level }

/-- An instruction placed where the next step fetches it, by the stream it is read from (log entries 12, 13). -/
def placeWord (st : Stream) (v : Nat) (s : State) : State :=
  match st with
  | .cmd => { s with phase := .waiting, host := .writeReg 0 v :: s.host }
  | .fourcc => { s with phase := .fourcc, hdr := { s.hdr with pfFourcc := BitVec.ofNat 32 v } }
  | .xfmt => { s with phase := .xfmt, ext := some { (s.ext.getD {}) with format := BitVec.ofNat 32 v } }
  | .block f => placeBlock f v s

end Sys2Proof.Machine
end

