-- ==== Sys2Proof/Machine/Step.lean ====
section
/-! DEFINITION. One step: fetch, run, retire. -/

namespace Sys2Proof.Machine

/-- One step of the machine. A host command is performed whole (`46_resolver.md` R235); where the unit stands inside a
command, the step runs the dispatch code or the block it stands at (log entry 2). -/
def step (s : State) : Host.Outcome State Fault Refusal :=
  match fetch s with
  | .error f => .fault f
  | .ok .nothing => .next s
  | .ok (.action a t) => hostAct a t
  | .ok (.instr i t) => andThen (exec i t) (retire s.phase)

/-- The state with an instruction word of the opcode table placed where the next step fetches it. -/
def State.withFetchWord (s : State) (nbits w : Nat) : State := placeWord (tableStream nbits w) (w % 2 ^ nbits) s

end Sys2Proof.Machine
end

