-- ==== Sys2Proof/Safety.lean ====
section
/-! DEFINITION. What a sound state of the BCDU is: the invariant that rules out the states no run reaches. Under it a step
never stops (`60_exceptions.md` R275). -/

namespace Sys2Proof.Safety

open Sys2Proof.Machine

/-- A record holds exactly `width*height*outputBytesPerPixel` bytes of a real codec (`10_state.md` R23). -/
def RecordOk (r : LevelRecord) : Prop :=
  r.fmt ≠ .none ∧ r.bytes.length = r.width.toNat * r.height.toNat * outBytes r.fmt

/-- The offending code of an unsupported format (`60_exceptions.md` R267). -/
def offendingCode (s : State) : Word :=
  match s.ext with
  | some x => x.format
  | none => if s.hdr.pfFlags.getLsbD 2 then s.hdr.pfFourcc else s.hdr.pfFlags

/-- FAULT_INFO and FMT are what the fault class says (`60_exceptions.md` R267, R270; log entry 5). -/
def FaultOk (s : State) : Prop :=
  match s.fault with
  | .none => s.faultInfo = 0
  | .malformedContainer => 1 ≤ s.faultInfo.toNat ∧ s.faultInfo.toNat ≤ 5 ∧ s.fmt = .none
  | .unsupportedFormat => s.faultInfo = offendingCode s ∧ s.fmt = .none
  | .truncatedStream => s.faultInfo = s.level ∧ s.fmt ≠ .none

/-- Blocks of the level not yet decoded. -/
def blocksLeft (s : State) : Nat := (s.seq.bhigh - s.seq.by_) * s.seq.bwide - s.seq.bx

/-- The walk stands at a block of a level that fits (`41_block_iteration.md` R111-R114). -/
structure WalkOk (s : State) : Prop where
  ready : s.unit = .ready
  grid : s.seq.bwide = blocksAcross s.lw.toNat ∧ s.seq.bhigh = blocksAcross s.lh.toNat ∧ s.seq.stride = s.seq.bwide * 4
  inside : s.seq.bx < s.seq.bwide ∧ s.seq.by_ < s.seq.bhigh
  row : s.seq.rowStart = s.seq.by_ * 4 * s.seq.stride * outBytes s.fmt
  off : s.seq.outOff = (s.seq.by_ * 4 * s.seq.stride + s.seq.bx * 4) * outBytes s.fmt
  pad : ∃ p, s.pad = some p ∧ p.length = padSize s
  src : s.srcOff + blocksLeft s * blockBytes s.fmt ≤ s.srcLen

/-- What holds where the unit stands inside a command. -/
def PhaseOk (s : State) : Prop :=
  match s.phase with
  | .waiting => s.pad = none
  | .fourcc => s.pad = none ∧ s.unit = .idle ∧ s.hdr.pfFlags.getLsbD 2 = true ∧ s.ext = none
  | .xfmt => s.pad = none ∧ s.unit = .idle ∧ s.ext.isSome = true
  | .level => WalkOk s
  | .chain => WalkOk s ∧ s.level.toNat < chainLength s

/-- The invariant of the machine. -/
structure Inv (s : State) : Prop where
  /-- SRC is in canonical form -/
  src : Memory.wf s.src
  /-- READY has a codec (`10_state.md` R30) -/
  ready : s.unit = .ready → s.fmt ≠ .none
  /-- IDLE has no codec and no output (`70_reset_and_hazards.md` R291, `46_resolver.md` R237) -/
  idle : s.unit = .idle → s.fmt = .none ∧ s.outq = []
  /-- FAULTED exactly with a fault (`10_state.md` R27) -/
  faulted : s.unit = .faulted ↔ s.fault ≠ .none
  /-- no output after a fault (`60_exceptions.md` R270) -/
  noOutput : s.unit = .faulted → s.outq = []
  fault : FaultOk s
  records : ∀ r ∈ s.outq, RecordOk r
  phase : PhaseOk s

/-- The scratch banks keep their sizes, the cursor and the BC7 mode their ranges (`10_state.md` R25, R34-R37). -/
structure ScratchOk (x : Scratch) : Prop where
  bitpos : x.bitpos ≤ 128
  blk : x.blk.length = 16
  px : x.px.length = 16 ∧ ∀ p ∈ x.px, p.length ≤ 4
  palc : x.grad.palc.length = 4
  palg : x.grad.palg.length = 8
  refs : -127 ≤ x.grad.e0 ∧ x.grad.e0 ≤ 255 ∧ -127 ≤ x.grad.e1 ∧ x.grad.e1 ≤ 255
  m7 : x.bc7.m7 ≤ 8
  ep7 : x.bc7.ep7.length = 6
  pb : x.bc7.pb.length = 6
  i1 : x.bc7.i1.length = 16
  i2 : x.bc7.i2.length = 16

end Sys2Proof.Safety
end

