-- ==== Sys2Proof/WellFormed.lean ====
section
/-! DEFINITION. Well-formed instructions. Operand widths are exact in the types, so every block, code and command with fixed
bits is well-formed; a default row ("applies to every 32-bit word not matched by another row") is well-formed only for a
word that no other row has (`30_encoding.md` R73, R74). -/

namespace Sys2Proof

/-- The checks of an instruction as syntax. -/
def wellFormed : Instr → Bool
  | .fourccOther w => (fourccRows.lookup w).isNone
  | .xfmtOther w => (xfmtRows.lookup w).isNone
  | .bc1 _ _ _ | .bc2 _ _ _ _ | .bc3 _ _ _ _ _ _ | .bc4 _ _ _ | .bc4s _ _ _ | .bc5 _ _ _ _ _ _ | .bc5s _ _ _ _ _ _
  | .bc6hM1 _ _ | .bc6hM2 _ _ | .bc6hM3 _ _ | .bc6hM4 _ _ | .bc6hM5 _ _ | .bc6hM6 _ _ | .bc6hM7 _ _ | .bc6hM8 _ _
  | .bc6hM9 _ _ | .bc6hM10 _ _ | .bc6hM11 _ _ | .bc6hM12 _ _ | .bc6hM13 _ _ | .bc6hM14 _ _ | .bc6hRsv13 _
  | .bc6hRsv17 _ | .bc6hRsv1B _ | .bc6hRsv1F _ | .bc7M0 _ _ _ _ _ _ | .bc7M1 _ _ _ _ _ _ | .bc7M2 _ _ _ _ _
  | .bc7M3 _ _ _ _ _ _ | .bc7M4 _ _ _ _ _ _ _ _ | .bc7M5 _ _ _ _ _ _ _ | .bc7M6 _ _ _ _ _ _ | .bc7M7 _ _ _ _ _ _ _
  | .bc7Rsv _ | .fourccDxt1 | .fourccDxt2 | .fourccDxt3 | .fourccDxt4 | .fourccDxt5 | .fourccAti1 | .fourccBc4u
  | .fourccBc4s | .fourccAti2 | .fourccBc5u | .fourccBc5s | .fourccDx10 | .xfmt70 | .xfmt71 | .xfmt72 | .xfmt73
  | .xfmt74 | .xfmt75 | .xfmt76 | .xfmt77 | .xfmt78 | .xfmt79 | .xfmt80 | .xfmt81 | .xfmt82 | .xfmt83 | .xfmt84
  | .xfmt94 | .xfmt95 | .xfmt96 | .xfmt97 | .xfmt98 | .xfmt99 | .cmdNop | .cmdResolve | .cmdLevel | .cmdChain
  | .cmdReset | .cmdRsv5 | .cmdRsv6 | .cmdRsv7 => true

end Sys2Proof
end

