-- ==== Sys2Proof/Certificates/Slice0/Obligations.lean ====
section
/-! DEFINITION. The statements about the model. The namespace Claims holds the spec's formulas written out a second time, from
the rules, in the shape the statements use (positions and operands instead of the model's cursor and lists). -/

namespace Sys2Proof.Claims

open Sys2Proof.Machine Sys2Proof.Safety

/-! ### Blocks in general -/

/-- The tile of a codec fits in PAD at OUTOFF: PAD is allocated, and the last of the sixteen pixels of rule R116 lies inside.
A stride is at least 4 (`41_block_iteration.md` R111 with `LW ≥ 1`). -/
def TileFits (f : Fmt) (s : State) : Prop :=
  4 ≤ s.seq.stride ∧ ∃ p, s.pad = some p ∧ s.seq.outOff + (3 * s.seq.stride + 4) * outBytes f ≤ p.length

/-- Where channel `c` of pixel `i` is stored (`41_block_iteration.md` R116). -/
def storeAt (f : Fmt) (s : State) (i c : Nat) : Nat :=
  s.seq.outOff + (i / 4 * s.seq.stride + i % 4) * outBytes f + c

/-- PAD after a block: the tile's bytes at their store addresses, every other byte as before. -/
def Stored (f : Fmt) (px : Nat → Nat → Byte) (s t : State) : Prop :=
  ∃ p q, s.pad = some p ∧ t.pad = some q ∧ q.length = p.length ∧
    (∀ i < 16, ∀ c < outBytes f, q[storeAt f s i c]? = some (px i c)) ∧
    ∀ a, (∀ i < 16, ∀ c < outBytes f, a ≠ storeAt f s i c) → q[a]? = p[a]?

/-- A block of a codec is done: its tile stored, SRCOFF one block on, BLKERR made sticky, PX the tile, and every field of the
state but PAD, SRCOFF, BLKERR and the scratch unchanged. -/
structure BlockDone (f : Fmt) (err : Bool) (px : Nat → Nat → Byte) (s t : State) : Prop where
  pad : Stored f px s t
  tile : t.scratch.px = (List.range 16).map fun i => (List.range (outBytes f)).map (px i)
  rest : t = { s with pad := t.pad, srcOff := s.srcOff + blockBytes f, blkErr := s.blkErr || err, scratch := t.scratch }

/-- The reserved blocks (`30_encoding.md` R84). -/
def isReserved : Instr → Bool
  | .bc6hRsv13 _ => true
  | .bc6hRsv17 _ => true
  | .bc6hRsv1B _ => true
  | .bc6hRsv1F _ => true
  | .bc7Rsv _ => true
  | _ => false

/-- The tile the bytes of a block decode to, by themselves: PX after the block runs alone in a one-block level from reset. -/
def tileOf (f : Fmt) (bs : List Byte) : List Pixel :=
  match decode (.block f) bs with
  | .error _ => []
  | .ok (i, _) =>
    match exec i (placeBlock f 0 State.reset) with
    | .next t => t.scratch.px
    | .fault _ => []
    | .refused _ => []

/-- Channel `c` of pixel `i` of a tile. -/
def tileByte (f : Fmt) (bs : List Byte) (i c : Nat) : Byte := ((tileOf f bs).getD i []).getD c 0

/-- The block integer of a block. -/
def block (i : Instr) : BitVec 128 := BitVec.ofNat 128 i.word

/-- `n` bits of a block from position `p`, the first one least significant (`00_scope.md` R8). -/
def bitsAt (b : BitVec 128) (p n : Nat) : Nat := b.toNat / 2 ^ p % 2 ^ n

/-- Group `k` of `w` bits of a value. -/
def group (v w k : Nat) : Nat := v / 2 ^ (w * k) % 2 ^ w

/-- The sum of the first `i` widths. -/
def offsetOf (width : Nat → Nat) (i : Nat) : Nat := ((List.range i).map width).sum

/-! ### Fixed gradients -/

/-- The table of `exp5` (`42_fixed_gradient.md` R128). -/
def exp5Table : List Nat :=
  [0, 8, 16, 25, 33, 41, 49, 58, 66, 74, 82, 90, 99, 107, 115, 123] ++
  [132, 140, 148, 156, 164, 173, 181, 189, 197, 205, 214, 222, 230, 238, 247, 255]

/-- The table of `exp6` (`42_fixed_gradient.md` R128). -/
def exp6Table : List Nat :=
  [0, 4, 8, 12, 16, 20, 24, 28, 32, 36, 40, 45, 49, 53, 57, 61] ++
  [65, 69, 73, 77, 81, 85, 89, 93, 97, 101, 105, 109, 113, 117, 121, 125] ++
  [130, 134, 138, 142, 146, 150, 154, 158, 162, 166, 170, 174, 178, 182, 186, 190] ++
  [194, 198, 202, 206, 210, 214, 219, 223, 227, 231, 235, 239, 243, 247, 251, 255]

/-- `rgb(C)` by channel number, from the tables (`42_fixed_gradient.md` R127, R128). -/
def rgbOf (c : BitVec 16) (ch : Nat) : Nat :=
  if ch = 0 then exp5Table.getD (c.toNat / 2 ^ 11) 0
  else if ch = 1 then exp6Table.getD (c.toNat / 2 ^ 5 % 2 ^ 6) 0
  else exp5Table.getD (c.toNat % 2 ^ 5) 0

/-- Entry `k` of the four-colour palette, by channel (`42_fixed_gradient.md` R129). -/
def fourEntry (c0 c1 : BitVec 16) (k ch : Nat) : Nat :=
  if ch = 3 then 255
  else if k = 0 then rgbOf c0 ch
  else if k = 1 then rgbOf c1 ch
  else if k = 2 then (2 * rgbOf c0 ch + rgbOf c1 ch) / 3
  else (rgbOf c0 ch + 2 * rgbOf c1 ch) / 3

/-- Entry `k` of the three-colour palette, by channel (`42_fixed_gradient.md` R130). -/
def threeEntry (c0 c1 : BitVec 16) (k ch : Nat) : Nat :=
  if k = 3 then 0
  else if ch = 3 then 255
  else if k = 0 then rgbOf c0 ch
  else if k = 1 then rgbOf c1 ch
  else (rgbOf c0 ch + rgbOf c1 ch) / 2

/-- Entry `k` of the palette of BC1 (`42_fixed_gradient.md` R131). -/
def bc1Entry (c0 c1 : BitVec 16) (k ch : Nat) : Nat :=
  if c1.toNat < c0.toNat then fourEntry c0 c1 k ch else threeEntry c0 c1 k ch

/-- PALC holding the entries. -/
def colourRegs (entry : Nat → Nat → Nat) : List (Rgba Byte) :=
  (List.range 4).map fun k =>
    ⟨BitVec.ofNat 8 (entry k 0), BitVec.ofNat 8 (entry k 1), BitVec.ofNat 8 (entry k 2), BitVec.ofNat 8 (entry k 3)⟩

/-- The colour index of pixel `i`: `SEL32[2i+1 : 2i]`. -/
def colourIndex (sel : BitVec 32) (i : Nat) : Nat := (sel.extractLsb' (2 * i) 2).toNat

/-- The gradient index of pixel `i`: `SEL48[3i+2 : 3i]`. -/
def gradIndex (sel : BitVec 48) (i : Nat) : Nat := (sel.extractLsb' (3 * i) 3).toNat

/-- The 4-bit alpha of pixel `i`: `ALPHA64[4i+3 : 4i]`. -/
def alphaIndex (alpha : BitVec 64) (i : Nat) : Nat := (alpha.extractLsb' (4 * i) 4).toNat

/-- Entry `k` of `GRAD8U` (`42_fixed_gradient.md` R133). -/
def gradU (e0 e1 : Byte) (k : Nat) : Nat :=
  if k = 0 then e0.toNat
  else if k = 1 then e1.toNat
  else if e1.toNat < e0.toNat then ((8 - k) * e0.toNat + (k - 1) * e1.toNat) / 7
  else if k ≤ 5 then ((6 - k) * e0.toNat + (k - 1) * e1.toNat) / 5
  else if k = 6 then 0
  else 255

/-- A signed reference, -128 replaced by -127 (`42_fixed_gradient.md` R146). -/
def signedValue (e : Byte) : Int := if e = 0x80 then -127 else e.toInt

/-- Entry `k` of `GRAD8S` in signed space, an exact rational (`42_fixed_gradient.md` R147). -/
def gradV (a b : Int) (k : Nat) : ℚ :=
  if k = 0 then a
  else if k = 1 then b
  else if b < a then ((8 - k : ℚ) * a + (k - 1 : ℚ) * b) / 7
  else if k ≤ 5 then ((6 - k : ℚ) * a + (k - 1 : ℚ) * b) / 5
  else if k = 6 then -127
  else 127

/-- `rescale` as the rule writes it (`42_fixed_gradient.md` R149). -/
def rescaleQ (v : ℚ) : Int := ⌊(v + 127) * (255 / 254) + 1 / 2⌋

/-- Entry `k` of the signed gradient of two reference bytes. -/
def gradS (e0 e1 : Byte) (k : Nat) : Byte := BitVec.ofInt 8 (rescaleQ (gradV (signedValue e0) (signedValue e1) k))

/-! ### BC6H -/

/-- The descriptor of a valid BC6H block (`30_encoding.md` R80, `43_bc6h.md` R163). -/
def mode6Of : Instr → Option Mode6
  | .bc6hM1 _ _ => some mode6M1
  | .bc6hM2 _ _ => some mode6M2
  | .bc6hM3 _ _ => some mode6M3
  | .bc6hM4 _ _ => some mode6M4
  | .bc6hM5 _ _ => some mode6M5
  | .bc6hM6 _ _ => some mode6M6
  | .bc6hM7 _ _ => some mode6M7
  | .bc6hM8 _ _ => some mode6M8
  | .bc6hM9 _ _ => some mode6M9
  | .bc6hM10 _ _ => some mode6M10
  | .bc6hM11 _ _ => some mode6M11
  | .bc6hM12 _ _ => some mode6M12
  | .bc6hM13 _ _ => some mode6M13
  | .bc6hM14 _ _ => some mode6M14
  | _ => none

/-- A header field by position: for every layout entry `(p, f, k)`, `f[k] = B[p]` (`43_bc6h.md` R164). -/
def field6 (d : Mode6) (b : BitVec 128) (f : HdrField) : Nat :=
  ((List.range d.hl).map fun p =>
    match d.fieldBits[p]? with
    | some (g, k) => if g = f ∧ b.getLsbD p = true then 2 ^ k else 0
    | none => 0).sum

/-- An absolute endpoint (`43_bc6h.md` R165, R166; Y and Z of a transformed one-region mode: log entry 25). -/
def endpoint6 (d : Mode6) (b : BitVec 128) (e : EndpointName) (c : Channel) : Nat :=
  if d.transformed = true ∧ e ≠ .w then
    ((sext (Rgb.get d.dp c) (field6 d b (.ep e c)) + (field6 d b (.ep .w c) : Int)) % (2 : Int) ^ d.bp).toNat
  else field6 d b (.ep e c)

/-- EP6 holding the endpoints. -/
def endpointRegs6 (d : Mode6) (b : BitVec 128) : Endpoints (BitVec 17) :=
  let one (e : EndpointName) : Rgb (BitVec 17) :=
    ⟨BitVec.ofNat 17 (endpoint6 d b e .r), BitVec.ofNat 17 (endpoint6 d b e .g), BitVec.ofNat 17 (endpoint6 d b e .b)⟩
  ⟨one .w, one .x, one .y, one .z⟩

/-- Width of the index of pixel `i` (`43_bc6h.md` R168). -/
def width6 (d : Mode6) (shape i : Nat) : Nat :=
  (if d.regions = 2 then 3 else 4) - (if isFixup d.regions shape i = true then 1 else 0)

/-- The index of pixel `i`, by position from bit `HL` (`43_bc6h.md` R168). -/
def index6 (d : Mode6) (b : BitVec 128) (i : Nat) : Nat :=
  let shape := field6 d b .shape
  bitsAt b (d.hl + offsetOf (width6 d shape) i) (width6 d shape i)

/-- Channel `ch` of pixel `i` (`43_bc6h.md` R167-R174). -/
def pixelByte6 (d : Mode6) (b : BitVec 128) (i ch : Nat) : Byte :=
  if ch = 3 then 255
  else
    let c : Channel := if ch = 0 then .r else if ch = 1 then .g else .b
    let r := region d.regions (field6 d b .shape) i
    let lo := unq6 d.bp (endpoint6 d b (if r = 0 then .w else .y) c)
    let hi := unq6 d.bp (endpoint6 d b (if r = 0 then .x else .z) c)
    let w := weight (if d.regions = 2 then 3 else 4) (index6 d b i)
    BitVec.ofNat 8 (half2byte ((lo * (64 - w) + hi * w + 32) / 64 * 31 / 64))

/-- The value of an unsigned half (`43_bc6h.md` R173). -/
def halfValue (h : Nat) : ℚ :=
  let e : Nat := h / 1024
  let m : Nat := h % 1024
  if e = 0 then (m : ℚ) / 2 ^ 24 else (1024 + (m : ℚ)) * (2 : ℚ) ^ ((e : Int) - 25)

/-! ### BC7 -/

/-- The operands of a valid BC7 block as numbers (`30_encoding.md` R82); a field the mode does not have is 0. -/
structure Operands7 where
  shape : Nat
  rot : Nat
  isel : Nat
  chan : Nat → Nat
  pbits : Nat
  primary : Nat
  secondary : Nat

/-- Four channel operands by number. -/
def chans (r g b a : Nat) (c : Nat) : Nat := if c = 0 then r else if c = 1 then g else if c = 2 then b else a

/-- The descriptor and the operands of a valid BC7 block. -/
def operands7 : Instr → Option (Mode7 × Operands7)
  | .bc7M0 shape r g b pbits primary =>
    some (mode7M0, ⟨shape.toNat, 0, 0, chans r.toNat g.toNat b.toNat 0, pbits.toNat, primary.toNat, 0⟩)
  | .bc7M1 shape r g b pbits primary =>
    some (mode7M1, ⟨shape.toNat, 0, 0, chans r.toNat g.toNat b.toNat 0, pbits.toNat, primary.toNat, 0⟩)
  | .bc7M2 shape r g b primary =>
    some (mode7M2, ⟨shape.toNat, 0, 0, chans r.toNat g.toNat b.toNat 0, 0, primary.toNat, 0⟩)
  | .bc7M3 shape r g b pbits primary =>
    some (mode7M3, ⟨shape.toNat, 0, 0, chans r.toNat g.toNat b.toNat 0, pbits.toNat, primary.toNat, 0⟩)
  | .bc7M4 rot isel r g b a primary secondary =>
    some (mode7M4, ⟨0, rot.toNat, isel.toNat, chans r.toNat g.toNat b.toNat a.toNat, 0, primary.toNat, secondary.toNat⟩)
  | .bc7M5 rot r g b a primary secondary =>
    some (mode7M5, ⟨0, rot.toNat, 0, chans r.toNat g.toNat b.toNat a.toNat, 0, primary.toNat, secondary.toNat⟩)
  | .bc7M6 r g b a pbits primary =>
    some (mode7M6, ⟨0, 0, 0, chans r.toNat g.toNat b.toNat a.toNat, pbits.toNat, primary.toNat, 0⟩)
  | .bc7M7 shape r g b a pbits primary =>
    some (mode7M7, ⟨shape.toNat, 0, 0, chans r.toNat g.toNat b.toNat a.toNat, pbits.toNat, primary.toNat, 0⟩)
  | _ => none

/-- Endpoint `e`, channel `c`, merged and unquantised (`44_bc7.md` R193-R195). -/
def endpointValue7 (d : Mode7) (o : Operands7) (e c : Nat) : Nat :=
  let p := d.prec.chan c
  let q := d.precP.chan c
  let v := group (o.chan c) p e
  let merged := if p ≠ q then 2 * v + group o.pbits 1 (e * d.np / d.ne) else v
  if q = 0 then 255 else (merged * 2 ^ (8 - q)) ||| (merged * 2 ^ (8 - q) / 2 ^ q)

/-- Width of the primary index of pixel `i` (`44_bc7.md` R197). -/
def primaryWidth (d : Mode7) (shape i : Nat) : Nat := d.ib - (if isFixup d.ns shape i = true then 1 else 0)

/-- Width of the secondary index of pixel `i` (`44_bc7.md` R197). -/
def secondaryWidth (d : Mode7) (i : Nat) : Nat := d.ib2 - (if i = 0 then 1 else 0)

/-- The primary index of pixel `i`. -/
def primaryIndex (d : Mode7) (o : Operands7) (i : Nat) : Nat :=
  o.primary / 2 ^ offsetOf (primaryWidth d o.shape) i % 2 ^ primaryWidth d o.shape i

/-- The secondary index of pixel `i`. -/
def secondaryIndex (d : Mode7) (o : Operands7) (i : Nat) : Nat :=
  o.secondary / 2 ^ offsetOf (secondaryWidth d) i % 2 ^ secondaryWidth d i

/-- Whether a channel takes its weight from the secondary index: alpha with ISEL = 0, colour with ISEL = 1, in a mode that
has one (`44_bc7.md` R198). -/
def takesSecondary (d : Mode7) (o : Operands7) (c : Nat) : Bool := d.ib2 ≠ 0 && ((o.isel == 1) != (c == 3))

/-- Channel `c` of pixel `i` before rotation (`44_bc7.md` R196, R198, R199). -/
def blend7 (d : Mode7) (o : Operands7) (i c : Nat) : Nat :=
  let r := region d.ns o.shape i
  let w := if takesSecondary d o c = true then weight d.ib2 (secondaryIndex d o i) else weight d.ib (primaryIndex d o i)
  (endpointValue7 d o (2 * r) c * (64 - w) + endpointValue7 d o (2 * r + 1) c * w + 32) / 64

/-- Channel `c` after rotation: alpha swapped with red, green or blue for codes 1, 2, 3 (`44_bc7.md` R200). -/
def pixelByte7 (d : Mode7) (o : Operands7) (i c : Nat) : Byte :=
  BitVec.ofNat 8 (blend7 d o i (if o.rot = 0 then c else if c = 3 then o.rot - 1 else if c = o.rot - 1 then 3 else c))

/-! ### Commands -/

/-- The little-endian word of SRC at an offset (`20_memory.md` R50). -/
def wordAt (s : State) (off : Nat) : Word :=
  let r (a : Nat) : Nat := (Memory.read s.src a).toNat
  BitVec.ofNat 32 (r off + 2 ^ 8 * r (off + 1) + 2 ^ 16 * r (off + 2) + 2 ^ 24 * r (off + 3))

/-- The header in SRC (`30_encoding.md` R71). -/
def headerIn (s : State) : Header :=
  { magic := wordAt s 0, size := wordAt s 4, flags := wordAt s 8, height := wordAt s 12, width := wordAt s 16
    pitch := wordAt s 20, depth := wordAt s 24, mips := wordAt s 28, pfSize := wordAt s 76, pfFlags := wordAt s 80
    pfFourcc := wordAt s 84, pfBitcount := wordAt s 88, pfRmask := wordAt s 92, pfGmask := wordAt s 96
    pfBmask := wordAt s 100, pfAmask := wordAt s 104, caps := wordAt s 108, caps2 := wordAt s 112, caps3 := wordAt s 116
    caps4 := wordAt s 120 }

/-- The extended header in SRC (`30_encoding.md` R72). -/
def extHeaderIn (s : State) : ExtHeader :=
  { format := wordAt s 128, dim := wordAt s 132, misc := wordAt s 136, array := wordAt s 140, misc2 := wordAt s 144 }

/-- `FOURCC_MAP` (`30_encoding.md` R73); none = unsupported. -/
def fourccCodec (w : Word) : Option Fmt :=
  if w = 0x31545844 then some .bc1
  else if w = 0x33545844 then some .bc2
  else if w = 0x35545844 then some .bc3
  else if w = 0x31495441 ∨ w = 0x55344342 then some .bc4
  else if w = 0x53344342 then some .bc4s
  else if w = 0x32495441 ∨ w = 0x55354342 then some .bc5
  else if w = 0x53354342 then some .bc5s
  else none

/-- `XFMT_MAP` (`30_encoding.md` R74); none = unsupported. -/
def xfmtCodec (w : Word) : Option Fmt :=
  let n := w.toNat
  if 70 ≤ n ∧ n ≤ 72 then some .bc1
  else if 73 ≤ n ∧ n ≤ 75 then some .bc2
  else if 76 ≤ n ∧ n ≤ 78 then some .bc3
  else if 79 ≤ n ∧ n ≤ 80 then some .bc4
  else if n = 81 then some .bc4s
  else if 82 ≤ n ∧ n ≤ 83 then some .bc5
  else if n = 84 then some .bc5s
  else if 94 ≤ n ∧ n ≤ 95 then some .bc6h
  else if 97 ≤ n ∧ n ≤ 99 then some .bc7
  else none

/-- The state after `raise` (`60_exceptions.md` R270). -/
def faulted (f : FaultClass) (info : Word) (s : State) : State :=
  { s with fault := f, faultInfo := info, unit := .faulted, outq := [], pad := none, phase := .waiting }

/-- The state after a codec is found (`46_resolver.md` R237, R247). -/
def resolved (f : Fmt) (payload : Nat) (s : State) : State :=
  { s with fmt := f, srcOff := payload, lw := s.hdr.width, lh := s.hdr.height, level := 0, unit := .ready, phase := .waiting }

/-- The pseudocode of RESOLVE (`46_resolver.md` R237). -/
def resolveSpec (s : State) : State :=
  let c := { s with unit := .idle, fault := .none, faultInfo := 0, blkErr := false, fmt := .none, outq := [], srcOff := 0
                    lw := 0, lh := 0, level := 0, hdr := {}, ext := none }
  if s.srcLen < 128 then faulted .malformedContainer 1 c
  else
    let h := headerIn s
    let u := { c with hdr := h }
    if h.magic ≠ 0x20534444 then faulted .malformedContainer 2 u
    else if h.size ≠ 124 ∨ h.pfSize ≠ 32 then faulted .malformedContainer 3 u
    else if h.width = 0 ∨ h.height = 0 then faulted .malformedContainer 4 u
    else if h.pfFlags.getLsbD 2 = false then faulted .unsupportedFormat h.pfFlags u
    else if h.pfFourcc = 0x30315844 then
      if s.srcLen < 148 then faulted .malformedContainer 5 u
      else
        let v := { u with ext := some (extHeaderIn s) }
        match xfmtCodec (extHeaderIn s).format with
        | none => faulted .unsupportedFormat (extHeaderIn s).format v
        | some f => resolved f 148 v
    else
      match fourccCodec h.pfFourcc with
      | none => faulted .unsupportedFormat h.pfFourcc u
      | some f => resolved f 128 u

/-- What a command is a function of, and what it leaves: SRC, SRC_LEN, the registers of `10_state.md` section 3 but CMD, and
OUTQ (`10_state.md` R40). -/
structure Visible where
  src : List Host.Cell
  srcLen : Nat
  outq : List LevelRecord
  unit : UnitState
  fault : FaultClass
  faultInfo : Word
  blkErr : Bool
  srcOff : Nat
  lw : Word
  lh : Word
  level : Word
  hdr : Header
  ext : Option ExtHeader
  fmt : Fmt

/-- The visible part of a state. -/
def visible (s : State) : Visible :=
  { src := s.src, srcLen := s.srcLen, outq := s.outq, unit := s.unit, fault := s.fault, faultInfo := s.faultInfo
    blkErr := s.blkErr, srcOff := s.srcOff, lw := s.lw, lh := s.lh, level := s.level, hdr := s.hdr, ext := s.ext, fmt := s.fmt }

/-- The number of blocks of a level (`41_block_iteration.md` R111, R112). -/
def blockCount (w h : Nat) : Nat := (w + 3) / 4 * ((h + 3) / 4)

/-- The bytes of block `k` of a level that starts at an offset of SRC (`41_block_iteration.md` R114, R115). -/
def blockIn (f : Fmt) (src : List Host.Cell) (off k : Nat) : List Byte :=
  Memory.readBytes src (off + k * blockBytes f) (blockBytes f)

/-- The output bytes of a level (`41_block_iteration.md` R114, R116, R118): pixel `(x, y)` is pixel `(x mod 4, y mod 4)` of
block `(x div 4, y div 4)`. -/
def levelBytes (f : Fmt) (src : List Host.Cell) (off w h : Nat) : List Byte :=
  (List.range h).flatMap fun y => (List.range w).flatMap fun x => (List.range (outBytes f)).map fun c =>
    tileByte f (blockIn f src off (y / 4 * ((w + 3) / 4) + x / 4)) (y % 4 * 4 + x % 4) c

/-- Whether some block of a level is reserved. -/
def levelError (f : Fmt) (src : List Host.Cell) (off w h : Nat) : Bool :=
  (List.range (blockCount w h)).any fun k =>
    match decode (.block f) (blockIn f src off k) with
    | .ok (i, _) => isReserved i
    | .error _ => false

/-- A dimension of level `k` (`46_resolver.md` R253). -/
def mipSize (w : Word) (k : Nat) : Nat := max 1 (w.toNat / 2 ^ k)

/-- Blocks of level `k` of the chain. -/
def chainBlocks (s : State) (k : Nat) : Nat := blockCount (mipSize s.hdr.width k) (mipSize s.hdr.height k)

/-- Where level `k` of the chain starts in SRC (`46_resolver.md` R250, `41_block_iteration.md` R112). -/
def chainOffset (s : State) (k : Nat) : Nat := s.srcOff + offsetOf (fun j => chainBlocks s j * blockBytes s.fmt) k

/-- The number of levels of the chain (`46_resolver.md` R250). -/
def chainLevels (s : State) : Nat := max 1 s.hdr.mips.toNat

/-- The record of level `k` of the chain. -/
def chainRecord (s : State) (k : Nat) : LevelRecord :=
  { level := BitVec.ofNat 32 k, width := BitVec.ofNat 32 (mipSize s.hdr.width k)
    height := BitVec.ofNat 32 (mipSize s.hdr.height k), fmt := s.fmt
    bytes := levelBytes s.fmt s.src (chainOffset s k) (mipSize s.hdr.width k) (mipSize s.hdr.height k) }

/-- Whether some block of the first `n` levels is reserved. -/
def chainError (s : State) (n : Nat) : Bool :=
  (List.range n).any fun k =>
    levelError s.fmt s.src (chainOffset s k) (mipSize s.hdr.width k) (mipSize s.hdr.height k)

/-- The grid a level sets (`41_block_iteration.md` R111). -/
def gridFor (s : State) : Sequencer :=
  { s.seq with bwide := (s.lw.toNat + 3) / 4, bhigh := (s.lh.toNat + 3) / 4, stride := (s.lw.toNat + 3) / 4 * 4 }

/-- The opcode rows of BC6H (`30_encoding.md` R80): mask and match over byte 0. -/
def row6 : Instr → Option (Byte × Byte)
  | .bc6hM1 _ _ => some (0x03, 0x00)
  | .bc6hM2 _ _ => some (0x03, 0x01)
  | .bc6hM3 _ _ => some (0x1F, 0x02)
  | .bc6hM4 _ _ => some (0x1F, 0x06)
  | .bc6hM5 _ _ => some (0x1F, 0x0A)
  | .bc6hM6 _ _ => some (0x1F, 0x0E)
  | .bc6hM7 _ _ => some (0x1F, 0x12)
  | .bc6hM8 _ _ => some (0x1F, 0x16)
  | .bc6hM9 _ _ => some (0x1F, 0x1A)
  | .bc6hM10 _ _ => some (0x1F, 0x1E)
  | .bc6hM11 _ _ => some (0x1F, 0x03)
  | .bc6hM12 _ _ => some (0x1F, 0x07)
  | .bc6hM13 _ _ => some (0x1F, 0x0B)
  | .bc6hM14 _ _ => some (0x1F, 0x0F)
  | .bc6hRsv13 _ => some (0x1F, 0x13)
  | .bc6hRsv17 _ => some (0x1F, 0x17)
  | .bc6hRsv1B _ => some (0x1F, 0x1B)
  | .bc6hRsv1F _ => some (0x1F, 0x1F)
  | _ => none

/-- The opcode rows of BC7 (`30_encoding.md` R81): mask and match over byte 0. -/
def row7 : Instr → Option (Byte × Byte)
  | .bc7M0 _ _ _ _ _ _ => some (0x01, 0x01)
  | .bc7M1 _ _ _ _ _ _ => some (0x03, 0x02)
  | .bc7M2 _ _ _ _ _ => some (0x07, 0x04)
  | .bc7M3 _ _ _ _ _ _ => some (0x0F, 0x08)
  | .bc7M4 _ _ _ _ _ _ _ _ => some (0x1F, 0x10)
  | .bc7M5 _ _ _ _ _ _ _ => some (0x3F, 0x20)
  | .bc7M6 _ _ _ _ _ _ => some (0x7F, 0x40)
  | .bc7M7 _ _ _ _ _ _ _ => some (0xFF, 0x80)
  | .bc7Rsv _ => some (0xFF, 0x00)
  | _ => none

/-- The field bits a BC6H mode must have (`43_bc6h.md` R163): the mode tag, `bp` bits of every channel of W, `dp` bits of every
channel of each other endpoint the mode has, five shape bits in a two-region mode. -/
def expectedBits (d : Mode6) : List (HdrField × Nat) :=
  let bits (f : HdrField) (n : Nat) : List (HdrField × Nat) := (List.range n).map fun k => (f, k)
  let other (e : EndpointName) : List (HdrField × Nat) :=
    bits (.ep e .r) d.dp.r ++ bits (.ep e .g) d.dp.g ++ bits (.ep e .b) d.dp.b
  bits .mode d.modeBits ++ bits (.ep .w .r) d.bp ++ bits (.ep .w .g) d.bp ++ bits (.ep .w .b) d.bp ++ other .x ++
    if d.regions = 2 then other .y ++ other .z ++ bits .shape 5 else []

end Sys2Proof.Claims

open Sys2Proof Sys2Proof.Machine Sys2Proof.Safety Sys2Proof.Claims

/-! ## Encoding -/

/-- O1. Decoding the bytes of a well-formed instruction, whatever follows them, gives that instruction and what follows:
every operand at every value (`30_encoding.md` R70-R82, R87). -/
def Obligations.DecodeReturnsEncodedInstruction : Prop :=
  ∀ (i : Instr) (rest : List Byte), wellFormed i = true → decode i.stream (encode i ++ rest) = .ok (i, rest)

/-- O2. Every word of a stream that holds instructions decodes to one well-formed instruction of that stream, and encoding it
gives the word back: no two words mean the same and no bit is dropped. A command code is a byte below 8 (CMD holds 3 bits). -/
def Obligations.EncodeReturnsDecodedWord : Prop :=
  ∀ (st : Stream) (bs : List Byte), st ≠ .block .none → bs.length = st.bytes → (st = .cmd → leNat bs < 8) →
    ∃ i, decode st bs = .ok (i, []) ∧ i.stream = st ∧ wellFormed i = true ∧ encode i = bs

/-- O3. Words written out from the spec's encodings decode to the instructions they stand for (R131, R144, R138, R141, R150,
R179(b), R179(f), R205(b), R205(a), R73, R74, R87), and the decoder rejects by name. -/
def Obligations.SampleWordsDecode : Prop :=
  decode (.block .bc1) [0x00, 0xF8, 0x1F, 0x00, 0xE4, 0x00, 0x00, 0x00] = .ok (.bc1 0xF800 0x001F 0xE4, []) ∧
  decode (.block .bc4) [0xC8, 0x32, 0x01, 0x00, 0x00, 0x00, 0x00, 0x80] = .ok (.bc4 200 50 0x800000000001, []) ∧
  decode (.block .bc4s) [0x7F, 0x81, 0x00, 0x00, 0x00, 0x00, 0x00, 0x00] = .ok (.bc4s 0x7F 0x81 0, []) ∧
  decode (.block .bc2) [0x10, 0x32, 0x54, 0x76, 0x98, 0xBA, 0xDC, 0xFE, 0x00, 0xF8, 0x1F, 0x00, 0xE4, 0x00, 0x00, 0x00] =
    .ok (.bc2 0xFEDCBA9876543210 0xF800 0x001F 0xE4, []) ∧
  decode (.block .bc3) [0xC8, 0x32, 0x01, 0x00, 0x00, 0x00, 0x00, 0x00, 0x00, 0xF8, 0x1F, 0x00, 0xE4, 0x00, 0x00, 0x00] =
    .ok (.bc3 200 50 1 0xF800 0x001F 0xE4, []) ∧
  decode (.block .bc5) [0xC8, 0x32, 0x00, 0x00, 0x00, 0x00, 0x00, 0x00, 0x32, 0xC8, 0x02, 0x00, 0x00, 0x00, 0x00, 0x00] =
    .ok (.bc5 200 50 0 50 200 2, []) ∧
  decode (.block .bc6h) (leBytes 16 0xedcba987654321f000c01ff800000003) =
    .ok (.bc6hM11 (0xedcba987654321f000c01ff800000003#128 |>.extractLsb' 5 60)
      (0xedcba987654321f000c01ff800000003#128 |>.extractLsb' 65 63), []) ∧
  decode (.block .bc6h) (0x13 :: List.replicate 15 0xFF) = .ok (.bc6hRsv13 (BitVec.allOnes 120 ++ 0#3), []) ∧
  decode (.block .bc7) (leBytes 16 0xfedcba9876543210e45100f0029fc540) =
    .ok (.bc7M6 (127#7 ++ 10#7) (0#7 ++ 20#7) (64#7 ++ 30#7) (100#7 ++ 40#7) 1
      (0xfedcba9876543210e45100f0029fc540#128 |>.extractLsb' 65 63), []) ∧
  decode (.block .bc7) (List.replicate 16 0) = .ok (.bc7Rsv 0, []) ∧
  decode .fourcc [0x44, 0x58, 0x54, 0x31] = .ok (.fourccDxt1, []) ∧
  decode .xfmt [98, 0, 0, 0] = .ok (.xfmt98, []) ∧
  decode .cmd [2] = .ok (.cmdLevel, []) ∧
  decode (.block .none) [] = .error .noFormat ∧
  decode (.block .bc1) (List.replicate 7 0) = .error (.tooShort (.block .bc1))

/-- O4. The mode field of a BC6H or BC7 block is the opcode row's: byte 0 of a block under the mask of its instruction's row is
the row's match, every such instruction has a row, and no two rows of a codec take the same byte (`30_encoding.md` R80, R81). -/
def Obligations.ModeFieldSelectsInstruction : Prop :=
  (∀ (bs : List Byte) (i : Instr), decode (.block .bc6h) bs = .ok (i, []) →
    ∃ mask m, row6 i = some (mask, m) ∧ bs.getD 0 0 &&& mask = m) ∧
  (∀ (bs : List Byte) (i : Instr), decode (.block .bc7) bs = .ok (i, []) →
    ∃ mask m, row7 i = some (mask, m) ∧ bs.getD 0 0 &&& mask = m) ∧
  (∀ (i j : Instr) (x mi m mj n : Byte), row6 i = some (mi, m) → row6 j = some (mj, n) → x &&& mi = m → x &&& mj = n →
    (mi, m) = (mj, n)) ∧
  (∀ (i j : Instr) (x mi m mj n : Byte), row7 i = some (mi, m) → row7 j = some (mj, n) → x &&& mi = m → x &&& mj = n →
    (mi, m) = (mj, n))

/-! ## The bit cursor -/

/-- O5. Bit position `p` of the block buffer is bit `p mod 8` of byte `p div 8`, and bit `p` of the block integer
(`40_bit_cursor.md` R100). -/
def Obligations.BitPositionIsBitOfItsByte : Prop :=
  ∀ (bs : List Byte) (pos p : Nat), bs.length = 16 → p < 128 →
    Cursor.bit ⟨BitVec.ofNat 128 (leNat bs), pos⟩ p = (bs.getD (p / 8) 0).toNat >>> (p % 8) % 2 ∧
    Cursor.bit ⟨BitVec.ofNat 128 (leNat bs), pos⟩ p = ((BitVec.ofNat 128 (leNat bs)).getLsbD p).toNat

/-- O6. `readBits(n)`, `n ≤ 8`: no bits for 0, the block error of an overrun, else the bits from BITPOS with the first one
least significant, BITPOS moved by `n`; a field that crosses a byte takes its low bits from the current byte and its high bits
from the next (`40_bit_cursor.md` R101, R102). -/
def Obligations.ReadBitsTakesTheNextBits : Prop :=
  ∀ (c : Cursor) (n : Nat), n ≤ 8 → c.pos ≤ 128 →
    (n = 0 → c.readBits n = some (0, c)) ∧
    (0 < n → 128 < c.pos + n → c.readBits n = none) ∧
    (0 < n → c.pos + n ≤ 128 → ∃ v, c.readBits n = some (v, ⟨c.blk, c.pos + n⟩) ∧ v < 2 ^ n ∧
      v = ((List.range n).map fun k => c.bit (c.pos + k) * 2 ^ k).sum ∧
      v = ((c.blk.extractLsb' (8 * (c.pos / 8)) 8).toNat + 256 * (c.blk.extractLsb' (8 * (c.pos / 8) + 8) 8).toNat)
            >>> (c.pos % 8) % 2 ^ n) ∧
    c.readBit = c.readBits 1

/-! ## Fixed gradients -/

/-- O7. EXPAND565 gives the tables of the rule on every packed word (`42_fixed_gradient.md` R127, R128). -/
def Obligations.Expand565GivesTheTables : Prop :=
  (∀ v < 32, exp5 v = exp5Table.getD v 0) ∧ (∀ v < 64, exp6 v = exp6Table.getD v 0) ∧
  ∀ c : BitVec 16, config.expand565 c =
    ⟨BitVec.ofNat 8 (rgbOf c 0), BitVec.ofNat 8 (rgbOf c 1), BitVec.ofNat 8 (rgbOf c 2)⟩

/-- O8. Interpolated entries lie between the references in the documented order, weakly always, strictly when the references
differ by the number of steps (`42_fixed_gradient.md` R135, `90_conflicts.md` C5). -/
def Obligations.GradientsAreMonotone : Prop :=
  (∀ e0 e1 : Byte, e1.toNat < e0.toNat →
    (∀ k, 1 < k → k < 7 → ((grad8u e0 e1).getD (k + 1) 0).toNat ≤ ((grad8u e0 e1).getD k 0).toNat) ∧
    ((grad8u e0 e1).getD 2 0).toNat ≤ e0.toNat ∧ e1.toNat ≤ ((grad8u e0 e1).getD 7 0).toNat) ∧
  (∀ e0 e1 : Byte, e1.toNat + 7 ≤ e0.toNat →
    (∀ k, 1 < k → k < 7 → ((grad8u e0 e1).getD (k + 1) 0).toNat < ((grad8u e0 e1).getD k 0).toNat) ∧
    ((grad8u e0 e1).getD 2 0).toNat < e0.toNat ∧ e1.toNat < ((grad8u e0 e1).getD 7 0).toNat) ∧
  (∀ a b : Byte, b.toNat ≤ a.toNat → b.toNat ≤ (mixByte 1 2 3 a b).toNat ∧
    (mixByte 1 2 3 a b).toNat ≤ (mixByte 2 1 3 a b).toNat ∧ (mixByte 2 1 3 a b).toNat ≤ a.toNat) ∧
  (∀ a b : Byte, a.toNat ≤ b.toNat → a.toNat ≤ (mixByte 2 1 3 a b).toNat ∧
    (mixByte 2 1 3 a b).toNat ≤ (mixByte 1 2 3 a b).toNat ∧ (mixByte 1 2 3 a b).toNat ≤ b.toNat) ∧
  ∀ a b : Byte, a.toNat + 3 ≤ b.toNat → a.toNat < (mixByte 2 1 3 a b).toNat ∧
    (mixByte 2 1 3 a b).toNat < (mixByte 1 2 3 a b).toNat ∧ (mixByte 1 2 3 a b).toNat < b.toNat

/-- O9. The integer form of `rescale` is the exact rational form, on every value the signed gradient gives, and stays in
0..255 (`42_fixed_gradient.md` R149). -/
def Obligations.RescaleRoundsTheExactValue : Prop :=
  (∀ (n : Int) (d : Nat), d = 1 ∨ d = 5 ∨ d = 7 → -(127 * d) ≤ n → n ≤ 127 * d →
    ((rescale n d).toNat : Int) = rescaleQ ((n : ℚ) / d) ∧ 0 ≤ rescaleQ ((n : ℚ) / d) ∧ rescaleQ ((n : ℚ) / d) ≤ 255) ∧
  rescale (-127) 1 = 0 ∧ rescale 0 1 = 128 ∧ rescale 127 1 = 255 ∧ rescale 1 1 = 129

/-- O10. BC1: every pixel is the palette entry its index names, four colours when `C0 > C1`, else three; C0, C1, SEL32, PALC
written; no flag, no fault; nothing else changes (`42_fixed_gradient.md` R126, R129, R130, R131). -/
def Obligations.Bc1BlockDecodes : Prop :=
  ∀ (c0 c1 : BitVec 16) (sel : BitVec 32) (s : State), TileFits .bc1 s →
    ∃ t, exec (.bc1 c0 c1 sel) s = .next t ∧
      BlockDone .bc1 false (fun i c => BitVec.ofNat 8 (bc1Entry c0 c1 (colourIndex sel i) c)) s t ∧
      t.scratch = { s.scratch with px := t.scratch.px, grad := { s.scratch.grad with
        c0 := c0, c1 := c1, sel32 := sel, palc := colourRegs (bc1Entry c0 c1) } }

/-- O11. BC2: always four colours, alpha the 4-bit grid times 17 (`42_fixed_gradient.md` R136, R137, R138, R139). -/
def Obligations.Bc2BlockDecodes : Prop :=
  ∀ (alpha : BitVec 64) (c0 c1 : BitVec 16) (sel : BitVec 32) (s : State), TileFits .bc2 s →
    ∃ t, exec (.bc2 alpha c0 c1 sel) s = .next t ∧
      BlockDone .bc2 false (fun i c => BitVec.ofNat 8
        (if c = 3 then alphaIndex alpha i * 17 else fourEntry c0 c1 (colourIndex sel i) c)) s t ∧
      t.scratch = { s.scratch with px := t.scratch.px, grad := { s.scratch.grad with
        alpha64 := alpha, c0 := c0, c1 := c1, sel32 := sel, palc := colourRegs (fourEntry c0 c1) } }

/-- O12. BC3: always four colours, alpha the unsigned gradient (`42_fixed_gradient.md` R133, R134, R139, R141). -/
def Obligations.Bc3BlockDecodes : Prop :=
  ∀ (e0 e1 : BitVec 8) (asel : BitVec 48) (c0 c1 : BitVec 16) (sel : BitVec 32) (s : State), TileFits .bc3 s →
    ∃ t, exec (.bc3 e0 e1 asel c0 c1 sel) s = .next t ∧
      BlockDone .bc3 false (fun i c => BitVec.ofNat 8
        (if c = 3 then gradU e0 e1 (gradIndex asel i) else fourEntry c0 c1 (colourIndex sel i) c)) s t ∧
      t.scratch = { s.scratch with px := t.scratch.px, grad := { s.scratch.grad with
        e0 := e0.toNat, e1 := e1.toNat, sel48 := asel, palg := (List.range 8).map fun k => BitVec.ofNat 8 (gradU e0 e1 k)
        c0 := c0, c1 := c1, sel32 := sel, palc := colourRegs (fourEntry c0 c1) } }

/-- O13. BC4: one channel, the unsigned gradient (`42_fixed_gradient.md` R133, R134, R144). -/
def Obligations.Bc4BlockDecodes : Prop :=
  ∀ (e0 e1 : BitVec 8) (sel : BitVec 48) (s : State), TileFits .bc4 s →
    ∃ t, exec (.bc4 e0 e1 sel) s = .next t ∧
      BlockDone .bc4 false (fun i _ => BitVec.ofNat 8 (gradU e0 e1 (gradIndex sel i))) s t ∧
      t.scratch = { s.scratch with px := t.scratch.px, grad := { s.scratch.grad with
        e0 := e0.toNat, e1 := e1.toNat, sel48 := sel, palg := (List.range 8).map fun k => BitVec.ofNat 8 (gradU e0 e1 k) } }

/-- O14. BC4S: one channel, the signed gradient in exact rationals, rescaled (`42_fixed_gradient.md` R146-R149). -/
def Obligations.Bc4sBlockDecodes : Prop :=
  ∀ (e0 e1 : BitVec 8) (sel : BitVec 48) (s : State), TileFits .bc4s s →
    ∃ t, exec (.bc4s e0 e1 sel) s = .next t ∧
      BlockDone .bc4s false (fun i _ => gradS e0 e1 (gradIndex sel i)) s t ∧
      t.scratch = { s.scratch with px := t.scratch.px, grad := { s.scratch.grad with
        e0 := signedValue e0, e1 := signedValue e1, sel48 := sel, palg := (List.range 8).map (gradS e0 e1) } }

/-- O15. BC5: red and green each by the unsigned gradient of its half, blue 0. The registers both halves write (E0, E1, SEL48,
PALG) may change; what they hold is log entry 7 and is not claimed (`42_fixed_gradient.md` R150). -/
def Obligations.Bc5BlockDecodes : Prop :=
  ∀ (re0 re1 : BitVec 8) (rsel : BitVec 48) (ge0 ge1 : BitVec 8) (gsel : BitVec 48) (s : State), TileFits .bc5 s →
    ∃ t, exec (.bc5 re0 re1 rsel ge0 ge1 gsel) s = .next t ∧
      BlockDone .bc5 false (fun i c => BitVec.ofNat 8
        (if c = 0 then gradU re0 re1 (gradIndex rsel i) else if c = 1 then gradU ge0 ge1 (gradIndex gsel i) else 0)) s t ∧
      t.scratch = { s.scratch with px := t.scratch.px, grad := { s.scratch.grad with
        e0 := t.scratch.grad.e0, e1 := t.scratch.grad.e1, sel48 := t.scratch.grad.sel48, palg := t.scratch.grad.palg } }

/-- O16. BC5S: red and green each by the signed gradient of its half, blue 0; scratch as BC5 (`42_fixed_gradient.md` R152). -/
def Obligations.Bc5sBlockDecodes : Prop :=
  ∀ (re0 re1 : BitVec 8) (rsel : BitVec 48) (ge0 ge1 : BitVec 8) (gsel : BitVec 48) (s : State), TileFits .bc5s s →
    ∃ t, exec (.bc5s re0 re1 rsel ge0 ge1 gsel) s = .next t ∧
      BlockDone .bc5s false (fun i c =>
        if c = 0 then gradS re0 re1 (gradIndex rsel i) else if c = 1 then gradS ge0 ge1 (gradIndex gsel i) else 0) s t ∧
      t.scratch = { s.scratch with px := t.scratch.px, grad := { s.scratch.grad with
        e0 := t.scratch.grad.e0, e1 := t.scratch.grad.e1, sel48 := t.scratch.grad.sel48, palg := t.scratch.grad.palg } }

/-! ## BC6H -/

/-- O17. In every BC6H mode the layout covers each header position once, its field bits are exactly the mode's, and header and
indices end at bit 127 (`43_bc6h.md` R163, R175). -/
def Obligations.Bc6hLayoutsCoverTheHeader : Prop :=
  modes6.length = 14 ∧ ∀ d ∈ modes6,
    d.fieldBits.length = d.hl ∧ d.fieldBits.Perm (expectedBits d) ∧ (expectedBits d).Nodup ∧
    ∀ shape < 32, d.hl + offsetOf (width6 d shape) 16 = 128

/-- O18. BC6H, all fourteen modes: fields scattered by position, sign extension and inverse delta, region, index by position,
unquantisation, interpolation, the 31/64 scale, half to byte, alpha 255; M6, SHAPE, EP6, IDX and BITPOS as the block leaves
them; no block error; nothing else changes (`43_bc6h.md` R161, R164-R174). That EP6 holds W for Y and Z in M12 to M14 is the
model's choice, log entry 25. -/
def Obligations.Bc6hBlockDecodes : Prop :=
  ∀ (i : Instr) (d : Mode6) (s : State), mode6Of i = some d → TileFits .bc6h s →
    ∃ t, exec i s = .next t ∧ BlockDone .bc6h false (pixelByte6 d (block i)) s t ∧
      t.scratch = { s.scratch with bitpos := 128, px := t.scratch.px, bc6h :=
        { m6 := BitVec.ofNat 5 d.sel, shape := BitVec.ofNat 5 (field6 d (block i) .shape), ep6 := endpointRegs6 d (block i)
          idx := BitVec.ofNat 4 (index6 d (block i) 15) } }

/-- O19. The four reserved selectors: sixteen pixels (0, 0, 0, 255), BLKERR set, SRCOFF 16 on, no further bit read
(`43_bc6h.md` R162). -/
def Obligations.Bc6hReservedBlockFallsBack : Prop :=
  ∀ (x : BitVec 123) (s : State), TileFits .bc6h s →
    ∀ e ∈ [(Instr.bc6hRsv13 x, 0x13#5), (.bc6hRsv17 x, 0x17#5), (.bc6hRsv1B x, 0x1B#5), (.bc6hRsv1F x, 0x1F#5)],
      ∃ t, exec e.1 s = .next t ∧ BlockDone .bc6h true (fun _ c => if c = 3 then 255 else 0) s t ∧
        t.scratch = { s.scratch with bitpos := 5, px := t.scratch.px, bc6h := { s.scratch.bc6h with m6 := e.2 } }

/-- O20. With any descriptor, an index read that would pass bit 127 leaves the pixels before it decoded and fills it and all
later ones with the fallback, setting the block error (`43_bc6h.md` R176). -/
def Obligations.Bc6hOverrunFillsTheRest : Prop :=
  ∀ (d : Mode6) (shape : Nat) (ep : Endpoints Nat) (idx : Nat) (c : Cursor),
    let fits (i : Nat) : Prop := c.pos + offsetOf (width6 d shape) (i + 1) ≤ 128
    let out := pixels6 d shape ep 16 idx [] c
    (∀ i < 16, fits i → out.tile.px[i]? =
      some (pixel6 d shape ep i (bitsAt c.blk (c.pos + offsetOf (width6 d shape) i) (width6 d shape i)))) ∧
    (∀ i < 16, ¬fits i → out.tile.px[i]? = some [0, 0, 0, 255]) ∧
    out.tile.px.length = 16 ∧ (out.tile.err = true ↔ ¬fits 15)

/-- O21. Ranges: after a valid BC6H block every endpoint register is below `2^bp`, unquantised and interpolated values are
below 65536, the half is at most 0x7BFF, the byte at most 255 (`43_bc6h.md` R177). -/
def Obligations.Bc6hValuesStayInRange : Prop :=
  (∀ (i : Instr) (d : Mode6) (s t : State), mode6Of i = some d → exec i s = .next t →
    ∀ (e : EndpointName) (c : Channel), (Rgb.get (t.scratch.bc6h.ep6.get e) c).toNat < 2 ^ d.bp) ∧
  (∀ d ∈ modes6, ∀ c < 2 ^ d.bp, unq6 d.bp c ≤ 65535) ∧
  (∀ a b w : Nat, a ≤ 65535 → b ≤ 65535 → w ≤ 64 → interp a b w ≤ 65535 ∧ finish6 (interp a b w) ≤ 0x7BFF) ∧
  ∀ h ≤ 0x7BFF, half2byte h ≤ 255

/-- O22. `HALF2BYTE` is the value of the half as an exact rational, clamped to 1, times 255, rounded half up
(`43_bc6h.md` R173). -/
def Obligations.HalfToByteRoundsTheExactValue : Prop :=
  (∀ h ≤ 0x7BFF, (half2byte h : Int) = ⌊min (halfValue h) 1 * 255 + 1 / 2⌋) ∧
  (∀ h, 0x3C00 ≤ h → h ≤ 0x7BFF → half2byte h = 255) ∧ (∀ h ≤ 0x1804, half2byte h = 0) ∧ half2byte 0x1805 = 1

/-! ## BC7 -/

/-- O23. Every BC7 mode uses exactly 128 bits (`44_bc7.md` R201). -/
def Obligations.Bc7ModesUse128Bits : Prop :=
  modes7.length = 8 ∧ ∀ d ∈ modes7, ∀ shape < 2 ^ d.pbw,
    (d.m + 1) + d.pbw + d.rb + d.isb + 2 * d.ns * (d.prec.r + d.prec.g + d.prec.b + d.prec.a) + d.np + (16 * d.ib - d.ns) +
      (if 0 < d.ib2 then 16 * d.ib2 - 1 else 0) = 128 ∧
    offsetOf (primaryWidth d shape) 16 = 16 * d.ib - d.ns

/-- O24. BC7, all eight modes, by operands: P-bit merge, unquantisation, region, index widths, index selection, interpolation,
rotation; M7, SHAPE, ROT, ISEL, EP7, PB, I1, I2 and BITPOS as the block leaves them; no block error; nothing but them, PX, PAD
and SRCOFF changes (`44_bc7.md` R190, R193-R200). Registers the mode does not use are log entry 20 and are not claimed. -/
def Obligations.Bc7BlockDecodes : Prop :=
  ∀ (i : Instr) (d : Mode7) (o : Operands7) (s : State), operands7 i = some (d, o) → TileFits .bc7 s →
    ∃ t, exec i s = .next t ∧ BlockDone .bc7 false (pixelByte7 d o) s t ∧
      t.scratch = { s.scratch with bitpos := 128, px := t.scratch.px, bc7 := t.scratch.bc7 } ∧
      t.scratch.bc7.m7 = d.m ∧ t.scratch.bc7.shape.toNat = o.shape ∧ t.scratch.bc7.rot.toNat = o.rot ∧
      t.scratch.bc7.isel.toNat = o.isel ∧
      (∀ e < 2 * d.ns, ∀ c < 4, ((t.scratch.bc7.ep7[e]?).map fun x => (x.chan c).toNat) = some (endpointValue7 d o e c)) ∧
      (∀ k < d.np, (t.scratch.bc7.pb[k]?).map BitVec.toNat = some (group o.pbits 1 k)) ∧
      (∀ j < 16, (t.scratch.bc7.i1[j]?).map BitVec.toNat = some (primaryIndex d o j)) ∧
      (d.ib2 ≠ 0 → ∀ j < 16, (t.scratch.bc7.i2[j]?).map BitVec.toNat = some (secondaryIndex d o j))

/-- O25. A BC7 block is reserved exactly when its byte 0 is 0; then sixteen pixels (0, 0, 0, 0), BLKERR set, SRCOFF 16 on,
bytes 1..15 ignored (`44_bc7.md` R192). -/
def Obligations.Bc7ReservedBlockFallsBack : Prop :=
  (∀ bs : List Byte, bs.length = 16 → ((∃ x, decode (.block .bc7) bs = .ok (.bc7Rsv x, [])) ↔ bs.getD 0 0 = 0)) ∧
  ∀ (x : BitVec 120) (s : State), TileFits .bc7 s →
    ∃ t, exec (.bc7Rsv x) s = .next t ∧ BlockDone .bc7 true (fun _ _ => 0) s t ∧
      t.scratch = { s.scratch with bitpos := 8, px := t.scratch.px, bc7 := { s.scratch.bc7 with m7 := 8 } }

/-- O26. With any descriptor, a BC7 block whose fields need more than 128 bits is a block error of all sixteen pixels, and one
whose fields need at most 128 is none (`44_bc7.md` R202). -/
def Obligations.Bc7OverrunFillsAllPixels : Prop :=
  ∀ (d : Mode7) (b : BitVec 128) (s : State), d.m < 128 → TileFits .bc7 s →
    let shape := bitsAt b (d.m + 1) d.pbw
    let bits := (d.m + 1) + d.pbw + d.rb + d.isb + 2 * d.ns * (d.prec.r + d.prec.g + d.prec.b + d.prec.a) + d.np +
      (primaryWidths d shape).sum + (secondaryWidths d).sum
    (128 < bits → ∃ t, runBc7 d b s = .next t ∧ BlockDone .bc7 true (fun _ _ => 0) s t) ∧
    (bits ≤ 128 → ∃ t, runBc7 d b s = .next t ∧ t.blkErr = s.blkErr)

/-- O27. Every pixel of a block of modes 0 to 3 has alpha 255 (`44_bc7.md` R203). -/
def Obligations.Bc7ModesWithoutAlphaAreOpaque : Prop :=
  ∀ (i : Instr) (d : Mode7) (o : Operands7) (s t : State), operands7 i = some (d, o) → d.m ≤ 3 → exec i s = .next t →
    ∀ j < 16, ((t.scratch.px.getD j []).getD 3 0) = 255

/-- O28. `UNQ7`: 255 without bits, else the value shifted to 8 bits with its own top bits in the low places, in 0..255; the
value itself at 8 bits; only alpha of the modes 0 to 3 has no bits, every other channel has 4 to 8 (`44_bc7.md` R195). -/
def Obligations.Unq7ReplicatesBits : Prop :=
  (∀ v, unq7 0 v = 255) ∧
  (∀ p v, 4 ≤ p → p ≤ 8 → v < 2 ^ p →
    unq7 p v = v * 2 ^ (8 - p) + v * 2 ^ (8 - p) / 2 ^ p ∧ unq7 p v ≤ 255 ∧ (p = 8 → unq7 p v = v)) ∧
  (∀ d ∈ modes7, ∀ c < 4, (d.precP.chan c = 0 ↔ c = 3 ∧ d.m ≤ 3) ∧
    (d.precP.chan c ≠ 0 → 4 ≤ d.precP.chan c ∧ d.precP.chan c ≤ 8)) ∧
  unq7 8 21 = 21 ∧ unq7 5 0x15 = 173 ∧ unq7 6 63 = 255 ∧ unq7 5 1 = 8

/-! ## Shared tables and formulas -/

/-- O29. `INTERP` gives its references at the weights 0 and 64, lies between them, and a fix-up index has a weight at most 30,
27 or 21 (`45_shared_tables.md` R229). -/
def Obligations.InterpolationStaysBetween : Prop :=
  (∀ a b : Nat, interp a b 0 = a ∧ interp a b 64 = b) ∧
  (∀ a b w : Nat, w ≤ 64 → min a b ≤ interp a b w ∧ interp a b w ≤ max a b ∧
    interp a b w = (a * (64 - w) + b * w + 32) / 64) ∧
  (∀ k < 8, weight 4 k ≤ 30) ∧ (∀ k < 4, weight 3 k ≤ 27) ∧ ∀ k < 2, weight 2 k ≤ 21

/-- O30. The consistency properties (a) to (e) of the partition and fix-up tables (`45_shared_tables.md` R230). -/
def Obligations.PartitionTablesAreConsistent : Prop :=
  (∀ s < 64, region 2 s 0 = 0 ∧ region 3 s 0 = 0) ∧
  (∀ s < 64, (∀ r < 2, ∃ i < 16, region 2 s i = r) ∧ ∀ r < 3, ∃ i < 16, region 3 s i = r) ∧
  partition2.length = 64 ∧ partition2.Nodup ∧ partition3.length = 64 ∧ partition3.Nodup ∧
  (∀ s < 64, region 2 s (fixA2.getD s 0) = 1 ∧ region 3 s (fixA3a.getD s 0) = 1 ∧ region 3 s (fixA3b.getD s 0) = 2) ∧
  ∀ s < 64, (fixA2.getD s 0 = 15 ↔ region 2 s 15 = 1) ∧ (fixA3b.getD s 0 = 15 ↔ region 3 s 15 = 2)

/-! ## Blocks, whatever the codec -/

/-- O31. Every block of every codec stores a full tile that depends on its own bytes alone (R121), at the addresses of rule
R116, advances SRCOFF by its codec's block size whatever its contents, and sets BLKERR exactly if it is reserved
(`41_block_iteration.md` R115, R116, R117, R121, `60_exceptions.md` R274, and R175, R201, which the spec derives). -/
def Obligations.EveryBlockStoresItsOwnTile : Prop :=
  ∀ (i : Instr) (f : Fmt) (s : State), i.stream = .block f → TileFits f s →
    ∃ t, exec i s = .next t ∧ BlockDone f (isReserved i) (tileByte f (encode i)) s t ∧
      t.scratch.px.length = 16 ∧ ∀ p ∈ t.scratch.px, p.length = outBytes f

/-- O32. A block stops only where its tile would leave PAD, then with the fault padOutOfRange, and always stops there; the
model's own stop, log entry 14 (`60_exceptions.md` R275: no write leaves PAD). -/
def Obligations.BlocksStopOnlyOutsidePad : Prop :=
  ∀ (i : Instr) (f : Fmt) (s : State), i.stream = .block f →
    (exec i s = .fault .padOutOfRange ↔
      ∀ p, s.pad = some p → p.length < s.seq.outOff + (3 * s.seq.stride + 4) * outBytes f) ∧
    (exec i s ≠ .fault .padOutOfRange → ∃ t, exec i s = .next t)

/-- O33. A block sets BLKERR exactly when it is reserved, never clears it, and leaves STATE, FAULT and FAULT_INFO alone
(`60_exceptions.md` R274, `42_fixed_gradient.md` R125, `43_bc6h.md` R175, `44_bc7.md` R201). -/
def Obligations.OnlyReservedBlocksSetBlkErr : Prop :=
  ∀ (i : Instr) (f : Fmt) (s t : State), i.stream = .block f → exec i s = .next t →
    t.blkErr = (s.blkErr || isReserved i) ∧ t.unit = s.unit ∧ t.fault = s.fault ∧ t.faultInfo = s.faultInfo ∧
    t.outq = s.outq ∧ t.fmt = s.fmt

/-! ## The resolver -/

/-- O34. Every FourCC code completes: the nine codec tags select their codec with the payload at 128, DXT2, DXT4 and any other
word record themselves in an UNSUPPORTED_FORMAT fault (`30_encoding.md` R73, `46_resolver.md` R245, R247). -/
def Obligations.FourccCodesComplete : Prop :=
  ∀ s : State,
    exec .fourccDxt1 s = .next (resolved .bc1 128 s) ∧ exec .fourccDxt3 s = .next (resolved .bc2 128 s) ∧
    exec .fourccDxt5 s = .next (resolved .bc3 128 s) ∧ exec .fourccAti1 s = .next (resolved .bc4 128 s) ∧
    exec .fourccBc4u s = .next (resolved .bc4 128 s) ∧ exec .fourccBc4s s = .next (resolved .bc4s 128 s) ∧
    exec .fourccAti2 s = .next (resolved .bc5 128 s) ∧ exec .fourccBc5u s = .next (resolved .bc5 128 s) ∧
    exec .fourccBc5s s = .next (resolved .bc5s 128 s) ∧
    exec .fourccDxt2 s = .next (faulted .unsupportedFormat 0x32545844 s) ∧
    exec .fourccDxt4 s = .next (faulted .unsupportedFormat 0x34545844 s) ∧
    ∀ w, exec (.fourccOther w) s = .next (faulted .unsupportedFormat w s)

/-- O35. The DX10 sentinel: with 148 bytes the five words of the extended header are loaded and the enumerant is next; with
fewer the extended header is truncated, cause 5, and none is loaded (`30_encoding.md` R72, `46_resolver.md` R243). That the
enumerant is a step of its own is log entry 2. -/
def Obligations.Dx10ParsesTheExtendedHeader : Prop :=
  ∀ s : State,
    (148 ≤ s.srcLen → exec .fourccDx10 s = .next { s with ext := some (extHeaderIn s), phase := .xfmt }) ∧
    (s.srcLen < 148 → exec .fourccDx10 s = .next (faulted .malformedContainer 5 s))

/-- O36. Every enumerant completes: twenty select their codec with the payload at 148, 96 and any other value record themselves
in an UNSUPPORTED_FORMAT fault (`30_encoding.md` R74, `46_resolver.md` R246, R247). -/
def Obligations.EnumerantsComplete : Prop :=
  ∀ s : State,
    (∀ i ∈ [Instr.xfmt70, .xfmt71, .xfmt72], exec i s = .next (resolved .bc1 148 s)) ∧
    (∀ i ∈ [Instr.xfmt73, .xfmt74, .xfmt75], exec i s = .next (resolved .bc2 148 s)) ∧
    (∀ i ∈ [Instr.xfmt76, .xfmt77, .xfmt78], exec i s = .next (resolved .bc3 148 s)) ∧
    (∀ i ∈ [Instr.xfmt79, .xfmt80], exec i s = .next (resolved .bc4 148 s)) ∧
    exec .xfmt81 s = .next (resolved .bc4s 148 s) ∧
    (∀ i ∈ [Instr.xfmt82, .xfmt83], exec i s = .next (resolved .bc5 148 s)) ∧
    exec .xfmt84 s = .next (resolved .bc5s 148 s) ∧
    (∀ i ∈ [Instr.xfmt94, .xfmt95], exec i s = .next (resolved .bc6h 148 s)) ∧
    (∀ i ∈ [Instr.xfmt97, .xfmt98, .xfmt99], exec i s = .next (resolved .bc7 148 s)) ∧
    exec .xfmt96 s = .next (faulted .unsupportedFormat 96 s) ∧
    ∀ w, exec (.xfmtOther w) s = .next (faulted .unsupportedFormat w s)

/-- O37. RESOLVE answers a next state from every state, and it is the one its pseudocode computes: the clear, the length check,
the header load, the checks in their order, the two dispatch maps, the result (`46_resolver.md` R237-R248). -/
def Obligations.ResolveComputesItsPseudocode : Prop := ∀ s : State, exec .cmdResolve s = .next (resolveSpec s)

/-- O38. What RESOLVE leaves in the host-visible registers and OUTQ depends on SRC and SRC_LEN alone; a second RESOLVE changes
nothing (`70_reset_and_hazards.md` R292, `46_resolver.md` R237). -/
def Obligations.ResolveForgetsThePast : Prop :=
  ∀ s u t : State, s.src = u.src → s.srcLen = u.srcLen → exec .cmdResolve s = .next t →
    (∃ v, exec .cmdResolve u = .next v ∧ visible v = visible t) ∧ exec .cmdResolve t = .next t

/-! ## The other commands -/

/-- O39. NOP, command code 0, changes nothing, in every state (`46_resolver.md` R236). -/
def Obligations.NopDoesNothing : Prop :=
  decode .cmd [0] = .ok (.cmdNop, []) ∧ ∀ s : State, exec .cmdNop s = .next s

/-- O40. LEVEL and CHAIN outside READY, and LEVEL with a zero dimension, have the effect of NOP; so have codes 5, 6, 7
(`46_resolver.md` R254). -/
def Obligations.IgnoredCommandsDoNothing : Prop :=
  (∀ s : State, s.unit ≠ .ready → exec .cmdLevel s = .next s ∧ exec .cmdChain s = .next s) ∧
  (∀ s : State, s.lw = 0 ∨ s.lh = 0 → exec .cmdLevel s = .next s) ∧
  ∀ s : State, exec .cmdRsv5 s = .next s ∧ exec .cmdRsv6 s = .next s ∧ exec .cmdRsv7 s = .next s

/-- O41. RESET gives every register and OUTQ the value after reset, and keeps SRC and SRC_LEN, from every state
(`46_resolver.md` R252, `70_reset_and_hazards.md` R290). The queue of host actions is the host's and is kept (log entry 1). -/
def Obligations.ResetKeepsOnlyTheSource : Prop :=
  ∀ s : State, ∃ t, exec .cmdReset s = .next t ∧ t.src = s.src ∧ t.srcLen = s.srcLen ∧
    { t with src := [], srcLen := 0, host := [] } = State.reset

/-- O42. A level whose bytes are not all there raises TRUNCATED_STREAM with FAULT_INFO = LEVEL, before PAD is allocated and
before any block: OUTQ empty, only the grid registers set, SRCOFF at the start of the level (`41_block_iteration.md` R111,
R112; `60_exceptions.md` R270). -/
def Obligations.TruncatedLevelFaults : Prop :=
  ∀ s : State, s.unit = .ready → s.fmt ≠ .none → s.lw ≠ 0 → s.lh ≠ 0 →
    s.srcLen < s.srcOff + blockCount s.lw.toNat s.lh.toNat * blockBytes s.fmt →
    exec .cmdLevel s = .next (faulted .truncatedStream s.level { s with seq := gridFor s })

/-- O43. A level whose bytes are there completes: one record of exactly `LW*LH*obpp` bytes, each the byte its own block's tile
gives that pixel; SRCOFF past the level; BLKERR set if a block was reserved; PAD discarded; STATE READY; LW, LH, LEVEL and
everything else but the sequencer and the scratch unchanged (`41_block_iteration.md` R114-R121, `46_resolver.md` R249). -/
def Obligations.LevelAppendsItsRecord : Prop :=
  ∀ s : State, s.unit = .ready → s.fmt ≠ .none → s.lw ≠ 0 → s.lh ≠ 0 →
    s.srcOff + blockCount s.lw.toNat s.lh.toNat * blockBytes s.fmt ≤ s.srcLen →
    ∃ t bytes, exec .cmdLevel s = .next t ∧ bytes = levelBytes s.fmt s.src s.srcOff s.lw.toNat s.lh.toNat ∧
      bytes.length = s.lw.toNat * s.lh.toNat * outBytes s.fmt ∧
      t = { s with
              outq := s.outq ++ [⟨s.level, s.lw, s.lh, s.fmt, bytes⟩]
              srcOff := s.srcOff + blockCount s.lw.toNat s.lh.toNat * blockBytes s.fmt
              blkErr := s.blkErr || levelError s.fmt s.src s.srcOff s.lw.toNat s.lh.toNat
              pad := none, phase := .waiting, seq := t.seq, scratch := t.scratch }

/-- O44. A chain whose bytes are there completes: `max(1, H_MIPS)` records, level `k` of `max(1, W >> k)` by `max(1, H >> k)`
pixels from where level `k-1` ended; LW, LH, LEVEL of the last level; SRCOFF past the chain (`46_resolver.md` R250, R253). -/
def Obligations.ChainAppendsItsRecords : Prop :=
  ∀ s : State, s.unit = .ready → s.fmt ≠ .none → chainOffset s (chainLevels s) ≤ s.srcLen →
    ∃ t, exec .cmdChain s = .next t ∧
      t = { s with
              outq := s.outq ++ (List.range (chainLevels s)).map (chainRecord s)
              srcOff := chainOffset s (chainLevels s)
              level := BitVec.ofNat 32 (chainLevels s - 1)
              lw := BitVec.ofNat 32 (mipSize s.hdr.width (chainLevels s - 1))
              lh := BitVec.ofNat 32 (mipSize s.hdr.height (chainLevels s - 1))
              blkErr := s.blkErr || chainError s (chainLevels s)
              pad := none, phase := .waiting, seq := t.seq, scratch := t.scratch }

/-- O45. A chain whose payload runs out at level `k` raises TRUNCATED_STREAM(k): no partial chain is visible, the levels before
were consumed, SRCOFF is at the start of level `k` (`46_resolver.md` R250, `60_exceptions.md` R270). -/
def Obligations.TruncatedChainFaults : Prop :=
  ∀ (s : State) (k : Nat), s.unit = .ready → s.fmt ≠ .none → k < chainLevels s →
    k = 0 ∨ chainOffset s k ≤ s.srcLen → s.srcLen < chainOffset s (k + 1) →
    ∃ t, exec .cmdChain s = .next t ∧
      t = { s with
              fault := .truncatedStream, faultInfo := BitVec.ofNat 32 k, unit := .faulted, outq := []
              srcOff := chainOffset s k, level := BitVec.ofNat 32 k
              lw := BitVec.ofNat 32 (mipSize s.hdr.width k), lh := BitVec.ofNat 32 (mipSize s.hdr.height k)
              blkErr := s.blkErr || chainError s k
              pad := none, phase := .waiting, seq := t.seq, scratch := t.scratch }

/-- O46. A command is the sequence of its blocks: from the allocated first level, as many steps as there are blocks give what
LEVEL, or CHAIN, gives in one. A step per block is the model's choice, log entry 2. -/
def Obligations.CommandsAreTheirSteps : Prop :=
  (∀ s : State, s.unit = .ready → s.fmt ≠ .none → s.lw ≠ 0 → s.lh ≠ 0 →
    s.srcOff + blockCount s.lw.toNat s.lh.toNat * blockBytes s.fmt ≤ s.srcLen →
    Host.Core.run Sys2Proof.core (blockCount s.lw.toNat s.lh.toNat) (allocPad .level (setGrid s)) = exec .cmdLevel s) ∧
  ∀ s : State, s.unit = .ready → s.fmt ≠ .none → chainOffset s (chainLevels s) ≤ s.srcLen →
    Host.Core.run Sys2Proof.core (offsetOf (chainBlocks s) (chainLevels s)) (allocPad .chain (setGrid (setLevel 0 s))) =
      exec .cmdChain s

/-! ## Steps, reset, invariants -/

/-- O47. A step runs the instruction the bytes decode to: a command code the host writes to CMD, a dispatch code in its
register, a block of FMT at SRCOFF (fetched into BLK with BITPOS 0). After a block the walk moves on (retire); after a code or
a command nothing is added. Steps inside a command are the model's choice, log entry 2; the host's queue is log entry 1; that a value of 8 or above runs
the code in its low 3 bits is log entry 9. -/
def Obligations.StepRunsTheDecodedInstruction : Prop :=
  (∀ (s : State) (v : Nat) (rest : List HostAction) (i : Instr), s.phase = .waiting → s.host = .writeReg 0 v :: rest →
    decode .cmd [BitVec.ofNat 8 (v % 8)] = .ok (i, []) →
    step s = andThen (exec i { s with host := rest, cmd := BitVec.ofNat 3 v }) .next) ∧
  (∀ (s : State) (i : Instr), s.phase = .fourcc → decode .fourcc (leBytes 4 s.hdr.pfFourcc.toNat) = .ok (i, []) →
    step s = andThen (exec i s) .next) ∧
  (∀ (s : State) (x : ExtHeader) (i : Instr), s.phase = .xfmt → s.ext = some x →
    decode .xfmt (leBytes 4 x.format.toNat) = .ok (i, []) → step s = andThen (exec i s) .next) ∧
  ∀ (s : State) (i : Instr), s.phase = .level ∨ s.phase = .chain → s.srcOff + blockBytes s.fmt ≤ s.srcLen →
    decode (.block s.fmt) (Memory.readBytes s.src s.srcOff (blockBytes s.fmt)) = .ok (i, []) →
    step s = andThen (exec i { s with scratch := { s.scratch with
      blk := Memory.readBytes s.src s.srcOff (blockBytes s.fmt) ++ s.scratch.blk.drop (blockBytes s.fmt), bitpos := 0 } })
      (retire s.phase)

/-- O48. The state after reset meets the invariant, and its scratch has its shape. -/
def Obligations.ResetMeetsTheInvariant : Prop := Inv State.reset ∧ ScratchOk State.reset.scratch

/-- O49. After reset every register of `70_reset_and_hazards.md` R291 has the value the table gives, and every register the
host can read reads 0. -/
def Obligations.ResetStateIsTheTable : Prop :=
  State.reset.cmd = 0 ∧ State.reset.unit = .idle ∧ State.reset.fault = .none ∧ State.reset.faultInfo = 0 ∧
  State.reset.blkErr = false ∧ State.reset.srcLen = 0 ∧ State.reset.srcOff = 0 ∧ State.reset.lw = 0 ∧ State.reset.lh = 0 ∧
  State.reset.level = 0 ∧ (∀ w ∈ State.reset.hdr.regs, w = 0) ∧ State.reset.ext = none ∧ State.reset.fmt = .none ∧
  State.reset.outq = [] ∧ State.reset.pad = none ∧ State.reset.seq = ⟨0, 0, 0, 0, 0, 0, 0⟩ ∧
  State.reset.scratch.bitpos = 0 ∧ State.reset.scratch.blk = List.replicate 16 0 ∧
  State.reset.scratch.px = List.replicate 16 [0, 0, 0, 0] ∧
  State.reset.scratch.grad =
    ⟨0, 0, List.replicate 4 ⟨0, 0, 0, 0⟩, 0, 0, List.replicate 8 0, 0, 0, 0⟩ ∧
  State.reset.scratch.bc6h = ⟨0, 0, ⟨⟨0, 0, 0⟩, ⟨0, 0, 0⟩, ⟨0, 0, 0⟩, ⟨0, 0, 0⟩⟩, 0⟩ ∧
  State.reset.scratch.bc7 = ⟨0, 0, 0, 0, List.replicate 6 ⟨0, 0, 0, 0⟩, List.replicate 6 0, List.replicate 16 0,
    List.replicate 16 0⟩ ∧
  ∀ no ≤ 48, hostRead State.reset no = none ∨ hostRead State.reset no = some 0

/-- O50. Every step keeps the invariant: SRC canonical, READY with a codec, FAULTED exactly with a fault and then no output,
FAULT_INFO what the class says, every record of exactly its size, the walk inside its level. -/
def Obligations.StepKeepsTheInvariant : Prop := ∀ s t : State, Inv s → step s = .next t → Inv t

/-- O51. From a state that meets the invariant a step always answers a next state: no read leaves SRC, no write leaves PAD,
nothing is refused, whatever SRC holds (`60_exceptions.md` R275). -/
def Obligations.StepNeverStops : Prop := ∀ s : State, Inv s → ∃ t, step s = .next t

/-- O52. Every step keeps the shape of the scratch: bank sizes, BITPOS and M7 in range, references in -127..255. -/
def Obligations.StepKeepsTheScratchShape : Prop :=
  ∀ s t : State, ScratchOk s.scratch → step s = .next t → ScratchOk t.scratch

/-- O53. No instruction writes SRC or SRC_LEN, or takes a pending host action, and only RESET writes CMD
(`10_state.md` R22, R27). -/
def Obligations.NoInstructionWritesTheSource : Prop :=
  ∀ (i : Instr) (s t : State), exec i s = .next t →
    t.src = s.src ∧ t.srcLen = s.srcLen ∧ t.host = s.host ∧ (i ≠ .cmdReset → t.cmd = s.cmd)

/-- O54. Only RESOLVE and RESET write the header registers; only they and the resolver's own codes write the extended header
and FMT (`46_resolver.md` R239, `10_state.md` R28, R30). -/
def Obligations.OnlyTheResolverWritesTheHeader : Prop :=
  ∀ (i : Instr) (s t : State), exec i s = .next t → i ≠ .cmdResolve → i ≠ .cmdReset →
    t.hdr = s.hdr ∧ (i ≠ .fourccDx10 → t.ext = s.ext) ∧ (i.stream ≠ .fourcc → i.stream ≠ .xfmt → t.fmt = s.fmt)

/-- O55. In FAULTED, LEVEL and CHAIN are ignored, RESET returns to IDLE without a fault, RESOLVE clears the old fault first
and starts anew, and every step but one that runs RESOLVE or RESET leaves STATE, FAULT and FAULT_INFO as they are
(`60_exceptions.md` R271). -/
def Obligations.FaultedUntilResolveOrReset : Prop :=
  (∀ s : State, s.unit = .faulted →
    exec .cmdLevel s = .next s ∧ exec .cmdChain s = .next s ∧
    (∃ t, exec .cmdReset s = .next t ∧ t.unit = .idle ∧ t.fault = .none ∧ t.faultInfo = 0) ∧
    ∃ t, exec .cmdResolve s = .next t ∧ exec .cmdResolve { s with unit := .idle, fault := .none, faultInfo := 0 } = .next t) ∧
  ∀ s t : State, Inv s → s.unit = .faulted → step s = .next t →
    (∀ v rest, s.host = .writeReg 0 v :: rest → decodeCmd (BitVec.ofNat 3 v) ≠ .cmdResolve ∧
      decodeCmd (BitVec.ofNat 3 v) ≠ .cmdReset) →
    t.unit = .faulted ∧ t.fault = s.fault ∧ t.faultInfo = s.faultInfo

/-- O56. No hidden state: two states that agree on SRC, SRC_LEN, the registers of section 3 and OUTQ give, for every command,
results that agree on them too (`10_state.md` R40). OUTQ is added to what R40 names, because LEVEL and CHAIN append to it
(R23). -/
def Obligations.CommandsSeeNoHiddenState : Prop :=
  ∀ (i : Instr) (s u t : State), i.stream = .cmd → visible s = visible u → exec i s = .next t →
    ∃ v, exec i u = .next v ∧ visible v = visible t

/-- O57. A host write that starts no command: SRC_LEN in any STATE; SRCOFF, LW, LH, LEVEL in READY; every other write is
ignored, but for the pending action itself (`46_resolver.md` R255). Values wider than the register are log entry 9; that a
number which names no register is ignored is log entry 26. -/
def Obligations.HostWritesOnlyWhatItMay : Prop :=
  ∀ (s : State) (no v : Nat) (rest : List HostAction), s.phase = .waiting → s.host = .writeReg no v :: rest → no ≠ 0 →
    let u := { s with host := rest }
    (no = 5 → step s = .next { u with srcLen := v }) ∧
    (s.unit = .ready → no = 6 → step s = .next { u with srcOff := v }) ∧
    (s.unit = .ready → no = 7 → v < 2 ^ 32 → step s = .next { u with lw := BitVec.ofNat 32 v }) ∧
    (s.unit = .ready → no = 8 → v < 2 ^ 32 → step s = .next { u with lh := BitVec.ofNat 32 v }) ∧
    (s.unit = .ready → no = 9 → v < 2 ^ 32 → step s = .next { u with level := BitVec.ofNat 32 v }) ∧
    (no ≠ 5 → s.unit ≠ .ready ∨ no < 5 ∨ 9 < no → step s = .next u)

/-- O58. Bytes the host places are read back at their addresses, every other byte of SRC as before, and nothing but SRC and the
pending action changes (`46_resolver.md` R255, `20_memory.md` R52, R61). -/
def Obligations.HostPlacesBytesInSrc : Prop :=
  ∀ (s : State) (a : Nat) (bs : List Byte) (rest : List HostAction), Memory.wf s.src → s.phase = .waiting →
    s.host = .writeSrc a bs :: rest →
    ∃ t, step s = .next t ∧ Memory.wf t.src ∧
      (∀ x, Memory.read t.src x = if a ≤ x ∧ x < a + bs.length then bs.getD (x - a) 0 else Memory.read s.src x) ∧
      t = { s with host := rest, src := t.src }

/-- O59. After a step from a sound state FMT is a codec exactly in READY or after a TRUNCATED_STREAM: R30 as R270 and program
P6 leave it. Following R270 where R30 says READY alone is log entry 5 (`10_state.md` R30, `60_exceptions.md` R270). -/
def Obligations.FmtHoldsACodecExactly : Prop :=
  ∀ s t : State, Inv s → step s = .next t → (t.fmt ≠ .none ↔ t.unit = .ready ∨ t.fault = .truncatedStream)
end

