-- ==== Sys2Proof/Laws/State.lean ====
section
/-! SUPPORT. One lemma per field per update of State, so that no later proof unfolds a record update. -/

namespace Sys2Proof.Machine

/-! ### `raise` -/

@[simp] theorem raise_src (f : FaultClass) (info : Word) (s : State) : (raise f info s).src = s.src := rfl
@[simp] theorem raise_outq (f : FaultClass) (info : Word) (s : State) : (raise f info s).outq = [] := rfl
@[simp] theorem raise_pad (f : FaultClass) (info : Word) (s : State) : (raise f info s).pad = none := rfl
@[simp] theorem raise_cmd (f : FaultClass) (info : Word) (s : State) : (raise f info s).cmd = s.cmd := rfl
@[simp] theorem raise_unit (f : FaultClass) (info : Word) (s : State) : (raise f info s).unit = .faulted := rfl
@[simp] theorem raise_fault (f : FaultClass) (info : Word) (s : State) : (raise f info s).fault = f := rfl
@[simp] theorem raise_faultInfo (f : FaultClass) (info : Word) (s : State) : (raise f info s).faultInfo = info := rfl
@[simp] theorem raise_blkErr (f : FaultClass) (info : Word) (s : State) : (raise f info s).blkErr = s.blkErr := rfl
@[simp] theorem raise_srcLen (f : FaultClass) (info : Word) (s : State) : (raise f info s).srcLen = s.srcLen := rfl
@[simp] theorem raise_srcOff (f : FaultClass) (info : Word) (s : State) : (raise f info s).srcOff = s.srcOff := rfl
@[simp] theorem raise_lw (f : FaultClass) (info : Word) (s : State) : (raise f info s).lw = s.lw := rfl
@[simp] theorem raise_lh (f : FaultClass) (info : Word) (s : State) : (raise f info s).lh = s.lh := rfl
@[simp] theorem raise_level (f : FaultClass) (info : Word) (s : State) : (raise f info s).level = s.level := rfl
@[simp] theorem raise_hdr (f : FaultClass) (info : Word) (s : State) : (raise f info s).hdr = s.hdr := rfl
@[simp] theorem raise_ext (f : FaultClass) (info : Word) (s : State) : (raise f info s).ext = s.ext := rfl
@[simp] theorem raise_fmt (f : FaultClass) (info : Word) (s : State) : (raise f info s).fmt = s.fmt := rfl
@[simp] theorem raise_seq (f : FaultClass) (info : Word) (s : State) : (raise f info s).seq = s.seq := rfl
@[simp] theorem raise_scratch (f : FaultClass) (info : Word) (s : State) : (raise f info s).scratch = s.scratch := rfl
@[simp] theorem raise_phase (f : FaultClass) (info : Word) (s : State) : (raise f info s).phase = .waiting := rfl
@[simp] theorem raise_host (f : FaultClass) (info : Word) (s : State) : (raise f info s).host = s.host := rfl

/-! ### `clearForResolve` -/

@[simp] theorem clearForResolve_src (s : State) : (clearForResolve s).src = s.src := rfl
@[simp] theorem clearForResolve_outq (s : State) : (clearForResolve s).outq = [] := rfl
@[simp] theorem clearForResolve_pad (s : State) : (clearForResolve s).pad = s.pad := rfl
@[simp] theorem clearForResolve_cmd (s : State) : (clearForResolve s).cmd = s.cmd := rfl
@[simp] theorem clearForResolve_unit (s : State) : (clearForResolve s).unit = .idle := rfl
@[simp] theorem clearForResolve_fault (s : State) : (clearForResolve s).fault = .none := rfl
@[simp] theorem clearForResolve_faultInfo (s : State) : (clearForResolve s).faultInfo = 0 := rfl
@[simp] theorem clearForResolve_blkErr (s : State) : (clearForResolve s).blkErr = false := rfl
@[simp] theorem clearForResolve_srcLen (s : State) : (clearForResolve s).srcLen = s.srcLen := rfl
@[simp] theorem clearForResolve_srcOff (s : State) : (clearForResolve s).srcOff = 0 := rfl
@[simp] theorem clearForResolve_lw (s : State) : (clearForResolve s).lw = 0 := rfl
@[simp] theorem clearForResolve_lh (s : State) : (clearForResolve s).lh = 0 := rfl
@[simp] theorem clearForResolve_level (s : State) : (clearForResolve s).level = 0 := rfl
@[simp] theorem clearForResolve_hdr (s : State) : (clearForResolve s).hdr = {} := rfl
@[simp] theorem clearForResolve_ext (s : State) : (clearForResolve s).ext = none := rfl
@[simp] theorem clearForResolve_fmt (s : State) : (clearForResolve s).fmt = .none := rfl
@[simp] theorem clearForResolve_seq (s : State) : (clearForResolve s).seq = s.seq := rfl
@[simp] theorem clearForResolve_scratch (s : State) : (clearForResolve s).scratch = s.scratch := rfl
@[simp] theorem clearForResolve_phase (s : State) : (clearForResolve s).phase = s.phase := rfl
@[simp] theorem clearForResolve_host (s : State) : (clearForResolve s).host = s.host := rfl

/-! ### `resetUnit` -/

@[simp] theorem resetUnit_src (s : State) : (resetUnit s).src = s.src := rfl
@[simp] theorem resetUnit_outq (s : State) : (resetUnit s).outq = [] := rfl
@[simp] theorem resetUnit_pad (s : State) : (resetUnit s).pad = none := rfl
@[simp] theorem resetUnit_cmd (s : State) : (resetUnit s).cmd = 0 := rfl
@[simp] theorem resetUnit_unit (s : State) : (resetUnit s).unit = .idle := rfl
@[simp] theorem resetUnit_fault (s : State) : (resetUnit s).fault = .none := rfl
@[simp] theorem resetUnit_faultInfo (s : State) : (resetUnit s).faultInfo = 0 := rfl
@[simp] theorem resetUnit_blkErr (s : State) : (resetUnit s).blkErr = false := rfl
@[simp] theorem resetUnit_srcLen (s : State) : (resetUnit s).srcLen = s.srcLen := rfl
@[simp] theorem resetUnit_srcOff (s : State) : (resetUnit s).srcOff = 0 := rfl
@[simp] theorem resetUnit_lw (s : State) : (resetUnit s).lw = 0 := rfl
@[simp] theorem resetUnit_lh (s : State) : (resetUnit s).lh = 0 := rfl
@[simp] theorem resetUnit_level (s : State) : (resetUnit s).level = 0 := rfl
@[simp] theorem resetUnit_hdr (s : State) : (resetUnit s).hdr = {} := rfl
@[simp] theorem resetUnit_ext (s : State) : (resetUnit s).ext = none := rfl
@[simp] theorem resetUnit_fmt (s : State) : (resetUnit s).fmt = .none := rfl
@[simp] theorem resetUnit_seq (s : State) : (resetUnit s).seq = {} := rfl
@[simp] theorem resetUnit_scratch (s : State) : (resetUnit s).scratch = {} := rfl
@[simp] theorem resetUnit_phase (s : State) : (resetUnit s).phase = .waiting := rfl
@[simp] theorem resetUnit_host (s : State) : (resetUnit s).host = s.host := rfl

/-! ### `selectFormat` -/

@[simp] theorem selectFormat_src (f : Fmt) (payload : Nat) (s : State) : (selectFormat f payload s).src = s.src := rfl
@[simp] theorem selectFormat_outq (f : Fmt) (payload : Nat) (s : State) : (selectFormat f payload s).outq = s.outq := rfl
@[simp] theorem selectFormat_pad (f : Fmt) (payload : Nat) (s : State) : (selectFormat f payload s).pad = s.pad := rfl
@[simp] theorem selectFormat_cmd (f : Fmt) (payload : Nat) (s : State) : (selectFormat f payload s).cmd = s.cmd := rfl
@[simp] theorem selectFormat_unit (f : Fmt) (payload : Nat) (s : State) : (selectFormat f payload s).unit = .ready := rfl
@[simp] theorem selectFormat_fault (f : Fmt) (payload : Nat) (s : State) : (selectFormat f payload s).fault = s.fault := rfl
@[simp] theorem selectFormat_faultInfo (f : Fmt) (payload : Nat) (s : State) : (selectFormat f payload s).faultInfo = s.faultInfo := rfl
@[simp] theorem selectFormat_blkErr (f : Fmt) (payload : Nat) (s : State) : (selectFormat f payload s).blkErr = s.blkErr := rfl
@[simp] theorem selectFormat_srcLen (f : Fmt) (payload : Nat) (s : State) : (selectFormat f payload s).srcLen = s.srcLen := rfl
@[simp] theorem selectFormat_srcOff (f : Fmt) (payload : Nat) (s : State) : (selectFormat f payload s).srcOff = payload := rfl
@[simp] theorem selectFormat_lw (f : Fmt) (payload : Nat) (s : State) : (selectFormat f payload s).lw = s.hdr.width := rfl
@[simp] theorem selectFormat_lh (f : Fmt) (payload : Nat) (s : State) : (selectFormat f payload s).lh = s.hdr.height := rfl
@[simp] theorem selectFormat_level (f : Fmt) (payload : Nat) (s : State) : (selectFormat f payload s).level = 0 := rfl
@[simp] theorem selectFormat_hdr (f : Fmt) (payload : Nat) (s : State) : (selectFormat f payload s).hdr = s.hdr := rfl
@[simp] theorem selectFormat_ext (f : Fmt) (payload : Nat) (s : State) : (selectFormat f payload s).ext = s.ext := rfl
@[simp] theorem selectFormat_fmt (f : Fmt) (payload : Nat) (s : State) : (selectFormat f payload s).fmt = f := rfl
@[simp] theorem selectFormat_seq (f : Fmt) (payload : Nat) (s : State) : (selectFormat f payload s).seq = s.seq := rfl
@[simp] theorem selectFormat_scratch (f : Fmt) (payload : Nat) (s : State) : (selectFormat f payload s).scratch = s.scratch := rfl
@[simp] theorem selectFormat_phase (f : Fmt) (payload : Nat) (s : State) : (selectFormat f payload s).phase = .waiting := rfl
@[simp] theorem selectFormat_host (f : Fmt) (payload : Nat) (s : State) : (selectFormat f payload s).host = s.host := rfl

/-! ### `setGrid` -/

@[simp] theorem setGrid_src (s : State) : (setGrid s).src = s.src := rfl
@[simp] theorem setGrid_outq (s : State) : (setGrid s).outq = s.outq := rfl
@[simp] theorem setGrid_pad (s : State) : (setGrid s).pad = s.pad := rfl
@[simp] theorem setGrid_cmd (s : State) : (setGrid s).cmd = s.cmd := rfl
@[simp] theorem setGrid_unit (s : State) : (setGrid s).unit = s.unit := rfl
@[simp] theorem setGrid_fault (s : State) : (setGrid s).fault = s.fault := rfl
@[simp] theorem setGrid_faultInfo (s : State) : (setGrid s).faultInfo = s.faultInfo := rfl
@[simp] theorem setGrid_blkErr (s : State) : (setGrid s).blkErr = s.blkErr := rfl
@[simp] theorem setGrid_srcLen (s : State) : (setGrid s).srcLen = s.srcLen := rfl
@[simp] theorem setGrid_srcOff (s : State) : (setGrid s).srcOff = s.srcOff := rfl
@[simp] theorem setGrid_lw (s : State) : (setGrid s).lw = s.lw := rfl
@[simp] theorem setGrid_lh (s : State) : (setGrid s).lh = s.lh := rfl
@[simp] theorem setGrid_level (s : State) : (setGrid s).level = s.level := rfl
@[simp] theorem setGrid_hdr (s : State) : (setGrid s).hdr = s.hdr := rfl
@[simp] theorem setGrid_ext (s : State) : (setGrid s).ext = s.ext := rfl
@[simp] theorem setGrid_fmt (s : State) : (setGrid s).fmt = s.fmt := rfl
@[simp] theorem setGrid_seq (s : State) : (setGrid s).seq = { s.seq with bwide := blocksAcross s.lw.toNat, bhigh := blocksAcross s.lh.toNat, stride := blocksAcross s.lw.toNat * 4 } := rfl
@[simp] theorem setGrid_scratch (s : State) : (setGrid s).scratch = s.scratch := rfl
@[simp] theorem setGrid_phase (s : State) : (setGrid s).phase = s.phase := rfl
@[simp] theorem setGrid_host (s : State) : (setGrid s).host = s.host := rfl

/-! ### `allocPad` -/

@[simp] theorem allocPad_src (p : Phase) (s : State) : (allocPad p s).src = s.src := rfl
@[simp] theorem allocPad_outq (p : Phase) (s : State) : (allocPad p s).outq = s.outq := rfl
@[simp] theorem allocPad_pad (p : Phase) (s : State) : (allocPad p s).pad = some (List.replicate (padSize s) 0) := rfl
@[simp] theorem allocPad_cmd (p : Phase) (s : State) : (allocPad p s).cmd = s.cmd := rfl
@[simp] theorem allocPad_unit (p : Phase) (s : State) : (allocPad p s).unit = s.unit := rfl
@[simp] theorem allocPad_fault (p : Phase) (s : State) : (allocPad p s).fault = s.fault := rfl
@[simp] theorem allocPad_faultInfo (p : Phase) (s : State) : (allocPad p s).faultInfo = s.faultInfo := rfl
@[simp] theorem allocPad_blkErr (p : Phase) (s : State) : (allocPad p s).blkErr = s.blkErr := rfl
@[simp] theorem allocPad_srcLen (p : Phase) (s : State) : (allocPad p s).srcLen = s.srcLen := rfl
@[simp] theorem allocPad_srcOff (p : Phase) (s : State) : (allocPad p s).srcOff = s.srcOff := rfl
@[simp] theorem allocPad_lw (p : Phase) (s : State) : (allocPad p s).lw = s.lw := rfl
@[simp] theorem allocPad_lh (p : Phase) (s : State) : (allocPad p s).lh = s.lh := rfl
@[simp] theorem allocPad_level (p : Phase) (s : State) : (allocPad p s).level = s.level := rfl
@[simp] theorem allocPad_hdr (p : Phase) (s : State) : (allocPad p s).hdr = s.hdr := rfl
@[simp] theorem allocPad_ext (p : Phase) (s : State) : (allocPad p s).ext = s.ext := rfl
@[simp] theorem allocPad_fmt (p : Phase) (s : State) : (allocPad p s).fmt = s.fmt := rfl
@[simp] theorem allocPad_seq (p : Phase) (s : State) : (allocPad p s).seq = { s.seq with bx := 0, by_ := 0, outOff := 0, rowStart := 0 } := rfl
@[simp] theorem allocPad_scratch (p : Phase) (s : State) : (allocPad p s).scratch = s.scratch := rfl
@[simp] theorem allocPad_phase (p : Phase) (s : State) : (allocPad p s).phase = p := rfl
@[simp] theorem allocPad_host (p : Phase) (s : State) : (allocPad p s).host = s.host := rfl

/-! ### `setLevel` -/

@[simp] theorem setLevel_src (k : Nat) (s : State) : (setLevel k s).src = s.src := rfl
@[simp] theorem setLevel_outq (k : Nat) (s : State) : (setLevel k s).outq = s.outq := rfl
@[simp] theorem setLevel_pad (k : Nat) (s : State) : (setLevel k s).pad = s.pad := rfl
@[simp] theorem setLevel_cmd (k : Nat) (s : State) : (setLevel k s).cmd = s.cmd := rfl
@[simp] theorem setLevel_unit (k : Nat) (s : State) : (setLevel k s).unit = s.unit := rfl
@[simp] theorem setLevel_fault (k : Nat) (s : State) : (setLevel k s).fault = s.fault := rfl
@[simp] theorem setLevel_faultInfo (k : Nat) (s : State) : (setLevel k s).faultInfo = s.faultInfo := rfl
@[simp] theorem setLevel_blkErr (k : Nat) (s : State) : (setLevel k s).blkErr = s.blkErr := rfl
@[simp] theorem setLevel_srcLen (k : Nat) (s : State) : (setLevel k s).srcLen = s.srcLen := rfl
@[simp] theorem setLevel_srcOff (k : Nat) (s : State) : (setLevel k s).srcOff = s.srcOff := rfl
@[simp] theorem setLevel_lw (k : Nat) (s : State) : (setLevel k s).lw = mipDim s.hdr.width k := rfl
@[simp] theorem setLevel_lh (k : Nat) (s : State) : (setLevel k s).lh = mipDim s.hdr.height k := rfl
@[simp] theorem setLevel_level (k : Nat) (s : State) : (setLevel k s).level = BitVec.ofNat 32 k := rfl
@[simp] theorem setLevel_hdr (k : Nat) (s : State) : (setLevel k s).hdr = s.hdr := rfl
@[simp] theorem setLevel_ext (k : Nat) (s : State) : (setLevel k s).ext = s.ext := rfl
@[simp] theorem setLevel_fmt (k : Nat) (s : State) : (setLevel k s).fmt = s.fmt := rfl
@[simp] theorem setLevel_seq (k : Nat) (s : State) : (setLevel k s).seq = s.seq := rfl
@[simp] theorem setLevel_scratch (k : Nat) (s : State) : (setLevel k s).scratch = s.scratch := rfl
@[simp] theorem setLevel_phase (k : Nat) (s : State) : (setLevel k s).phase = s.phase := rfl
@[simp] theorem setLevel_host (k : Nat) (s : State) : (setLevel k s).host = s.host := rfl

/-! ### `setColourHalf` -/

@[simp] theorem setColourHalf_src (c0 c1 : BitVec 16) (sel : BitVec 32) (palc : List (Rgba Byte)) (s : State) : (setColourHalf c0 c1 sel palc s).src = s.src := rfl
@[simp] theorem setColourHalf_outq (c0 c1 : BitVec 16) (sel : BitVec 32) (palc : List (Rgba Byte)) (s : State) : (setColourHalf c0 c1 sel palc s).outq = s.outq := rfl
@[simp] theorem setColourHalf_pad (c0 c1 : BitVec 16) (sel : BitVec 32) (palc : List (Rgba Byte)) (s : State) : (setColourHalf c0 c1 sel palc s).pad = s.pad := rfl
@[simp] theorem setColourHalf_cmd (c0 c1 : BitVec 16) (sel : BitVec 32) (palc : List (Rgba Byte)) (s : State) : (setColourHalf c0 c1 sel palc s).cmd = s.cmd := rfl
@[simp] theorem setColourHalf_unit (c0 c1 : BitVec 16) (sel : BitVec 32) (palc : List (Rgba Byte)) (s : State) : (setColourHalf c0 c1 sel palc s).unit = s.unit := rfl
@[simp] theorem setColourHalf_fault (c0 c1 : BitVec 16) (sel : BitVec 32) (palc : List (Rgba Byte)) (s : State) : (setColourHalf c0 c1 sel palc s).fault = s.fault := rfl
@[simp] theorem setColourHalf_faultInfo (c0 c1 : BitVec 16) (sel : BitVec 32) (palc : List (Rgba Byte)) (s : State) : (setColourHalf c0 c1 sel palc s).faultInfo = s.faultInfo := rfl
@[simp] theorem setColourHalf_blkErr (c0 c1 : BitVec 16) (sel : BitVec 32) (palc : List (Rgba Byte)) (s : State) : (setColourHalf c0 c1 sel palc s).blkErr = s.blkErr := rfl
@[simp] theorem setColourHalf_srcLen (c0 c1 : BitVec 16) (sel : BitVec 32) (palc : List (Rgba Byte)) (s : State) : (setColourHalf c0 c1 sel palc s).srcLen = s.srcLen := rfl
@[simp] theorem setColourHalf_srcOff (c0 c1 : BitVec 16) (sel : BitVec 32) (palc : List (Rgba Byte)) (s : State) : (setColourHalf c0 c1 sel palc s).srcOff = s.srcOff := rfl
@[simp] theorem setColourHalf_lw (c0 c1 : BitVec 16) (sel : BitVec 32) (palc : List (Rgba Byte)) (s : State) : (setColourHalf c0 c1 sel palc s).lw = s.lw := rfl
@[simp] theorem setColourHalf_lh (c0 c1 : BitVec 16) (sel : BitVec 32) (palc : List (Rgba Byte)) (s : State) : (setColourHalf c0 c1 sel palc s).lh = s.lh := rfl
@[simp] theorem setColourHalf_level (c0 c1 : BitVec 16) (sel : BitVec 32) (palc : List (Rgba Byte)) (s : State) : (setColourHalf c0 c1 sel palc s).level = s.level := rfl
@[simp] theorem setColourHalf_hdr (c0 c1 : BitVec 16) (sel : BitVec 32) (palc : List (Rgba Byte)) (s : State) : (setColourHalf c0 c1 sel palc s).hdr = s.hdr := rfl
@[simp] theorem setColourHalf_ext (c0 c1 : BitVec 16) (sel : BitVec 32) (palc : List (Rgba Byte)) (s : State) : (setColourHalf c0 c1 sel palc s).ext = s.ext := rfl
@[simp] theorem setColourHalf_fmt (c0 c1 : BitVec 16) (sel : BitVec 32) (palc : List (Rgba Byte)) (s : State) : (setColourHalf c0 c1 sel palc s).fmt = s.fmt := rfl
@[simp] theorem setColourHalf_seq (c0 c1 : BitVec 16) (sel : BitVec 32) (palc : List (Rgba Byte)) (s : State) : (setColourHalf c0 c1 sel palc s).seq = s.seq := rfl
@[simp] theorem setColourHalf_scratch (c0 c1 : BitVec 16) (sel : BitVec 32) (palc : List (Rgba Byte)) (s : State) : (setColourHalf c0 c1 sel palc s).scratch = { s.scratch with grad := { s.scratch.grad with c0 := c0, c1 := c1, sel32 := sel, palc := palc } } := rfl
@[simp] theorem setColourHalf_phase (c0 c1 : BitVec 16) (sel : BitVec 32) (palc : List (Rgba Byte)) (s : State) : (setColourHalf c0 c1 sel palc s).phase = s.phase := rfl
@[simp] theorem setColourHalf_host (c0 c1 : BitVec 16) (sel : BitVec 32) (palc : List (Rgba Byte)) (s : State) : (setColourHalf c0 c1 sel palc s).host = s.host := rfl

/-! ### `setGradHalf` -/

@[simp] theorem setGradHalf_src (e0 e1 : Int) (sel : BitVec 48) (palg : List Byte) (s : State) : (setGradHalf e0 e1 sel palg s).src = s.src := rfl
@[simp] theorem setGradHalf_outq (e0 e1 : Int) (sel : BitVec 48) (palg : List Byte) (s : State) : (setGradHalf e0 e1 sel palg s).outq = s.outq := rfl
@[simp] theorem setGradHalf_pad (e0 e1 : Int) (sel : BitVec 48) (palg : List Byte) (s : State) : (setGradHalf e0 e1 sel palg s).pad = s.pad := rfl
@[simp] theorem setGradHalf_cmd (e0 e1 : Int) (sel : BitVec 48) (palg : List Byte) (s : State) : (setGradHalf e0 e1 sel palg s).cmd = s.cmd := rfl
@[simp] theorem setGradHalf_unit (e0 e1 : Int) (sel : BitVec 48) (palg : List Byte) (s : State) : (setGradHalf e0 e1 sel palg s).unit = s.unit := rfl
@[simp] theorem setGradHalf_fault (e0 e1 : Int) (sel : BitVec 48) (palg : List Byte) (s : State) : (setGradHalf e0 e1 sel palg s).fault = s.fault := rfl
@[simp] theorem setGradHalf_faultInfo (e0 e1 : Int) (sel : BitVec 48) (palg : List Byte) (s : State) : (setGradHalf e0 e1 sel palg s).faultInfo = s.faultInfo := rfl
@[simp] theorem setGradHalf_blkErr (e0 e1 : Int) (sel : BitVec 48) (palg : List Byte) (s : State) : (setGradHalf e0 e1 sel palg s).blkErr = s.blkErr := rfl
@[simp] theorem setGradHalf_srcLen (e0 e1 : Int) (sel : BitVec 48) (palg : List Byte) (s : State) : (setGradHalf e0 e1 sel palg s).srcLen = s.srcLen := rfl
@[simp] theorem setGradHalf_srcOff (e0 e1 : Int) (sel : BitVec 48) (palg : List Byte) (s : State) : (setGradHalf e0 e1 sel palg s).srcOff = s.srcOff := rfl
@[simp] theorem setGradHalf_lw (e0 e1 : Int) (sel : BitVec 48) (palg : List Byte) (s : State) : (setGradHalf e0 e1 sel palg s).lw = s.lw := rfl
@[simp] theorem setGradHalf_lh (e0 e1 : Int) (sel : BitVec 48) (palg : List Byte) (s : State) : (setGradHalf e0 e1 sel palg s).lh = s.lh := rfl
@[simp] theorem setGradHalf_level (e0 e1 : Int) (sel : BitVec 48) (palg : List Byte) (s : State) : (setGradHalf e0 e1 sel palg s).level = s.level := rfl
@[simp] theorem setGradHalf_hdr (e0 e1 : Int) (sel : BitVec 48) (palg : List Byte) (s : State) : (setGradHalf e0 e1 sel palg s).hdr = s.hdr := rfl
@[simp] theorem setGradHalf_ext (e0 e1 : Int) (sel : BitVec 48) (palg : List Byte) (s : State) : (setGradHalf e0 e1 sel palg s).ext = s.ext := rfl
@[simp] theorem setGradHalf_fmt (e0 e1 : Int) (sel : BitVec 48) (palg : List Byte) (s : State) : (setGradHalf e0 e1 sel palg s).fmt = s.fmt := rfl
@[simp] theorem setGradHalf_seq (e0 e1 : Int) (sel : BitVec 48) (palg : List Byte) (s : State) : (setGradHalf e0 e1 sel palg s).seq = s.seq := rfl
@[simp] theorem setGradHalf_scratch (e0 e1 : Int) (sel : BitVec 48) (palg : List Byte) (s : State) : (setGradHalf e0 e1 sel palg s).scratch = { s.scratch with grad := { s.scratch.grad with e0 := e0, e1 := e1, sel48 := sel, palg := palg } } := rfl
@[simp] theorem setGradHalf_phase (e0 e1 : Int) (sel : BitVec 48) (palg : List Byte) (s : State) : (setGradHalf e0 e1 sel palg s).phase = s.phase := rfl
@[simp] theorem setGradHalf_host (e0 e1 : Int) (sel : BitVec 48) (palg : List Byte) (s : State) : (setGradHalf e0 e1 sel palg s).host = s.host := rfl

/-! ### `setAlphaGrid` -/

@[simp] theorem setAlphaGrid_src (alpha : BitVec 64) (s : State) : (setAlphaGrid alpha s).src = s.src := rfl
@[simp] theorem setAlphaGrid_outq (alpha : BitVec 64) (s : State) : (setAlphaGrid alpha s).outq = s.outq := rfl
@[simp] theorem setAlphaGrid_pad (alpha : BitVec 64) (s : State) : (setAlphaGrid alpha s).pad = s.pad := rfl
@[simp] theorem setAlphaGrid_cmd (alpha : BitVec 64) (s : State) : (setAlphaGrid alpha s).cmd = s.cmd := rfl
@[simp] theorem setAlphaGrid_unit (alpha : BitVec 64) (s : State) : (setAlphaGrid alpha s).unit = s.unit := rfl
@[simp] theorem setAlphaGrid_fault (alpha : BitVec 64) (s : State) : (setAlphaGrid alpha s).fault = s.fault := rfl
@[simp] theorem setAlphaGrid_faultInfo (alpha : BitVec 64) (s : State) : (setAlphaGrid alpha s).faultInfo = s.faultInfo := rfl
@[simp] theorem setAlphaGrid_blkErr (alpha : BitVec 64) (s : State) : (setAlphaGrid alpha s).blkErr = s.blkErr := rfl
@[simp] theorem setAlphaGrid_srcLen (alpha : BitVec 64) (s : State) : (setAlphaGrid alpha s).srcLen = s.srcLen := rfl
@[simp] theorem setAlphaGrid_srcOff (alpha : BitVec 64) (s : State) : (setAlphaGrid alpha s).srcOff = s.srcOff := rfl
@[simp] theorem setAlphaGrid_lw (alpha : BitVec 64) (s : State) : (setAlphaGrid alpha s).lw = s.lw := rfl
@[simp] theorem setAlphaGrid_lh (alpha : BitVec 64) (s : State) : (setAlphaGrid alpha s).lh = s.lh := rfl
@[simp] theorem setAlphaGrid_level (alpha : BitVec 64) (s : State) : (setAlphaGrid alpha s).level = s.level := rfl
@[simp] theorem setAlphaGrid_hdr (alpha : BitVec 64) (s : State) : (setAlphaGrid alpha s).hdr = s.hdr := rfl
@[simp] theorem setAlphaGrid_ext (alpha : BitVec 64) (s : State) : (setAlphaGrid alpha s).ext = s.ext := rfl
@[simp] theorem setAlphaGrid_fmt (alpha : BitVec 64) (s : State) : (setAlphaGrid alpha s).fmt = s.fmt := rfl
@[simp] theorem setAlphaGrid_seq (alpha : BitVec 64) (s : State) : (setAlphaGrid alpha s).seq = s.seq := rfl
@[simp] theorem setAlphaGrid_scratch (alpha : BitVec 64) (s : State) : (setAlphaGrid alpha s).scratch = { s.scratch with grad := { s.scratch.grad with alpha64 := alpha } } := rfl
@[simp] theorem setAlphaGrid_phase (alpha : BitVec 64) (s : State) : (setAlphaGrid alpha s).phase = s.phase := rfl
@[simp] theorem setAlphaGrid_host (alpha : BitVec 64) (s : State) : (setAlphaGrid alpha s).host = s.host := rfl

/-! ### `setMode6` -/

@[simp] theorem setMode6_src (sel bits : Nat) (s : State) : (setMode6 sel bits s).src = s.src := rfl
@[simp] theorem setMode6_outq (sel bits : Nat) (s : State) : (setMode6 sel bits s).outq = s.outq := rfl
@[simp] theorem setMode6_pad (sel bits : Nat) (s : State) : (setMode6 sel bits s).pad = s.pad := rfl
@[simp] theorem setMode6_cmd (sel bits : Nat) (s : State) : (setMode6 sel bits s).cmd = s.cmd := rfl
@[simp] theorem setMode6_unit (sel bits : Nat) (s : State) : (setMode6 sel bits s).unit = s.unit := rfl
@[simp] theorem setMode6_fault (sel bits : Nat) (s : State) : (setMode6 sel bits s).fault = s.fault := rfl
@[simp] theorem setMode6_faultInfo (sel bits : Nat) (s : State) : (setMode6 sel bits s).faultInfo = s.faultInfo := rfl
@[simp] theorem setMode6_blkErr (sel bits : Nat) (s : State) : (setMode6 sel bits s).blkErr = s.blkErr := rfl
@[simp] theorem setMode6_srcLen (sel bits : Nat) (s : State) : (setMode6 sel bits s).srcLen = s.srcLen := rfl
@[simp] theorem setMode6_srcOff (sel bits : Nat) (s : State) : (setMode6 sel bits s).srcOff = s.srcOff := rfl
@[simp] theorem setMode6_lw (sel bits : Nat) (s : State) : (setMode6 sel bits s).lw = s.lw := rfl
@[simp] theorem setMode6_lh (sel bits : Nat) (s : State) : (setMode6 sel bits s).lh = s.lh := rfl
@[simp] theorem setMode6_level (sel bits : Nat) (s : State) : (setMode6 sel bits s).level = s.level := rfl
@[simp] theorem setMode6_hdr (sel bits : Nat) (s : State) : (setMode6 sel bits s).hdr = s.hdr := rfl
@[simp] theorem setMode6_ext (sel bits : Nat) (s : State) : (setMode6 sel bits s).ext = s.ext := rfl
@[simp] theorem setMode6_fmt (sel bits : Nat) (s : State) : (setMode6 sel bits s).fmt = s.fmt := rfl
@[simp] theorem setMode6_seq (sel bits : Nat) (s : State) : (setMode6 sel bits s).seq = s.seq := rfl
@[simp] theorem setMode6_scratch (sel bits : Nat) (s : State) : (setMode6 sel bits s).scratch = { s.scratch with bitpos := bits, bc6h := { s.scratch.bc6h with m6 := BitVec.ofNat 5 sel } } := rfl
@[simp] theorem setMode6_phase (sel bits : Nat) (s : State) : (setMode6 sel bits s).phase = s.phase := rfl
@[simp] theorem setMode6_host (sel bits : Nat) (s : State) : (setMode6 sel bits s).host = s.host := rfl

/-! ### `setScratch6` -/

@[simp] theorem setScratch6_src (shape : Nat) (ep : Endpoints Nat) (idx pos : Nat) (s : State) : (setScratch6 shape ep idx pos s).src = s.src := rfl
@[simp] theorem setScratch6_outq (shape : Nat) (ep : Endpoints Nat) (idx pos : Nat) (s : State) : (setScratch6 shape ep idx pos s).outq = s.outq := rfl
@[simp] theorem setScratch6_pad (shape : Nat) (ep : Endpoints Nat) (idx pos : Nat) (s : State) : (setScratch6 shape ep idx pos s).pad = s.pad := rfl
@[simp] theorem setScratch6_cmd (shape : Nat) (ep : Endpoints Nat) (idx pos : Nat) (s : State) : (setScratch6 shape ep idx pos s).cmd = s.cmd := rfl
@[simp] theorem setScratch6_unit (shape : Nat) (ep : Endpoints Nat) (idx pos : Nat) (s : State) : (setScratch6 shape ep idx pos s).unit = s.unit := rfl
@[simp] theorem setScratch6_fault (shape : Nat) (ep : Endpoints Nat) (idx pos : Nat) (s : State) : (setScratch6 shape ep idx pos s).fault = s.fault := rfl
@[simp] theorem setScratch6_faultInfo (shape : Nat) (ep : Endpoints Nat) (idx pos : Nat) (s : State) : (setScratch6 shape ep idx pos s).faultInfo = s.faultInfo := rfl
@[simp] theorem setScratch6_blkErr (shape : Nat) (ep : Endpoints Nat) (idx pos : Nat) (s : State) : (setScratch6 shape ep idx pos s).blkErr = s.blkErr := rfl
@[simp] theorem setScratch6_srcLen (shape : Nat) (ep : Endpoints Nat) (idx pos : Nat) (s : State) : (setScratch6 shape ep idx pos s).srcLen = s.srcLen := rfl
@[simp] theorem setScratch6_srcOff (shape : Nat) (ep : Endpoints Nat) (idx pos : Nat) (s : State) : (setScratch6 shape ep idx pos s).srcOff = s.srcOff := rfl
@[simp] theorem setScratch6_lw (shape : Nat) (ep : Endpoints Nat) (idx pos : Nat) (s : State) : (setScratch6 shape ep idx pos s).lw = s.lw := rfl
@[simp] theorem setScratch6_lh (shape : Nat) (ep : Endpoints Nat) (idx pos : Nat) (s : State) : (setScratch6 shape ep idx pos s).lh = s.lh := rfl
@[simp] theorem setScratch6_level (shape : Nat) (ep : Endpoints Nat) (idx pos : Nat) (s : State) : (setScratch6 shape ep idx pos s).level = s.level := rfl
@[simp] theorem setScratch6_hdr (shape : Nat) (ep : Endpoints Nat) (idx pos : Nat) (s : State) : (setScratch6 shape ep idx pos s).hdr = s.hdr := rfl
@[simp] theorem setScratch6_ext (shape : Nat) (ep : Endpoints Nat) (idx pos : Nat) (s : State) : (setScratch6 shape ep idx pos s).ext = s.ext := rfl
@[simp] theorem setScratch6_fmt (shape : Nat) (ep : Endpoints Nat) (idx pos : Nat) (s : State) : (setScratch6 shape ep idx pos s).fmt = s.fmt := rfl
@[simp] theorem setScratch6_seq (shape : Nat) (ep : Endpoints Nat) (idx pos : Nat) (s : State) : (setScratch6 shape ep idx pos s).seq = s.seq := rfl
@[simp] theorem setScratch6_phase (shape : Nat) (ep : Endpoints Nat) (idx pos : Nat) (s : State) : (setScratch6 shape ep idx pos s).phase = s.phase := rfl
@[simp] theorem setScratch6_host (shape : Nat) (ep : Endpoints Nat) (idx pos : Nat) (s : State) : (setScratch6 shape ep idx pos s).host = s.host := rfl

/-! ### `setMode7` -/

@[simp] theorem setMode7_src (m bits : Nat) (s : State) : (setMode7 m bits s).src = s.src := rfl
@[simp] theorem setMode7_outq (m bits : Nat) (s : State) : (setMode7 m bits s).outq = s.outq := rfl
@[simp] theorem setMode7_pad (m bits : Nat) (s : State) : (setMode7 m bits s).pad = s.pad := rfl
@[simp] theorem setMode7_cmd (m bits : Nat) (s : State) : (setMode7 m bits s).cmd = s.cmd := rfl
@[simp] theorem setMode7_unit (m bits : Nat) (s : State) : (setMode7 m bits s).unit = s.unit := rfl
@[simp] theorem setMode7_fault (m bits : Nat) (s : State) : (setMode7 m bits s).fault = s.fault := rfl
@[simp] theorem setMode7_faultInfo (m bits : Nat) (s : State) : (setMode7 m bits s).faultInfo = s.faultInfo := rfl
@[simp] theorem setMode7_blkErr (m bits : Nat) (s : State) : (setMode7 m bits s).blkErr = s.blkErr := rfl
@[simp] theorem setMode7_srcLen (m bits : Nat) (s : State) : (setMode7 m bits s).srcLen = s.srcLen := rfl
@[simp] theorem setMode7_srcOff (m bits : Nat) (s : State) : (setMode7 m bits s).srcOff = s.srcOff := rfl
@[simp] theorem setMode7_lw (m bits : Nat) (s : State) : (setMode7 m bits s).lw = s.lw := rfl
@[simp] theorem setMode7_lh (m bits : Nat) (s : State) : (setMode7 m bits s).lh = s.lh := rfl
@[simp] theorem setMode7_level (m bits : Nat) (s : State) : (setMode7 m bits s).level = s.level := rfl
@[simp] theorem setMode7_hdr (m bits : Nat) (s : State) : (setMode7 m bits s).hdr = s.hdr := rfl
@[simp] theorem setMode7_ext (m bits : Nat) (s : State) : (setMode7 m bits s).ext = s.ext := rfl
@[simp] theorem setMode7_fmt (m bits : Nat) (s : State) : (setMode7 m bits s).fmt = s.fmt := rfl
@[simp] theorem setMode7_seq (m bits : Nat) (s : State) : (setMode7 m bits s).seq = s.seq := rfl
@[simp] theorem setMode7_scratch (m bits : Nat) (s : State) : (setMode7 m bits s).scratch = { s.scratch with bitpos := bits, bc7 := { s.scratch.bc7 with m7 := m } } := rfl
@[simp] theorem setMode7_phase (m bits : Nat) (s : State) : (setMode7 m bits s).phase = s.phase := rfl
@[simp] theorem setMode7_host (m bits : Nat) (s : State) : (setMode7 m bits s).host = s.host := rfl

/-! ### `setScratch7` -/

@[simp] theorem setScratch7_src (d : Mode7) (f : Fields7) (s : State) : (setScratch7 d f s).src = s.src := rfl
@[simp] theorem setScratch7_outq (d : Mode7) (f : Fields7) (s : State) : (setScratch7 d f s).outq = s.outq := rfl
@[simp] theorem setScratch7_pad (d : Mode7) (f : Fields7) (s : State) : (setScratch7 d f s).pad = s.pad := rfl
@[simp] theorem setScratch7_cmd (d : Mode7) (f : Fields7) (s : State) : (setScratch7 d f s).cmd = s.cmd := rfl
@[simp] theorem setScratch7_unit (d : Mode7) (f : Fields7) (s : State) : (setScratch7 d f s).unit = s.unit := rfl
@[simp] theorem setScratch7_fault (d : Mode7) (f : Fields7) (s : State) : (setScratch7 d f s).fault = s.fault := rfl
@[simp] theorem setScratch7_faultInfo (d : Mode7) (f : Fields7) (s : State) : (setScratch7 d f s).faultInfo = s.faultInfo := rfl
@[simp] theorem setScratch7_blkErr (d : Mode7) (f : Fields7) (s : State) : (setScratch7 d f s).blkErr = s.blkErr := rfl
@[simp] theorem setScratch7_srcLen (d : Mode7) (f : Fields7) (s : State) : (setScratch7 d f s).srcLen = s.srcLen := rfl
@[simp] theorem setScratch7_srcOff (d : Mode7) (f : Fields7) (s : State) : (setScratch7 d f s).srcOff = s.srcOff := rfl
@[simp] theorem setScratch7_lw (d : Mode7) (f : Fields7) (s : State) : (setScratch7 d f s).lw = s.lw := rfl
@[simp] theorem setScratch7_lh (d : Mode7) (f : Fields7) (s : State) : (setScratch7 d f s).lh = s.lh := rfl
@[simp] theorem setScratch7_level (d : Mode7) (f : Fields7) (s : State) : (setScratch7 d f s).level = s.level := rfl
@[simp] theorem setScratch7_hdr (d : Mode7) (f : Fields7) (s : State) : (setScratch7 d f s).hdr = s.hdr := rfl
@[simp] theorem setScratch7_ext (d : Mode7) (f : Fields7) (s : State) : (setScratch7 d f s).ext = s.ext := rfl
@[simp] theorem setScratch7_fmt (d : Mode7) (f : Fields7) (s : State) : (setScratch7 d f s).fmt = s.fmt := rfl
@[simp] theorem setScratch7_seq (d : Mode7) (f : Fields7) (s : State) : (setScratch7 d f s).seq = s.seq := rfl
@[simp] theorem setScratch7_phase (d : Mode7) (f : Fields7) (s : State) : (setScratch7 d f s).phase = s.phase := rfl
@[simp] theorem setScratch7_host (d : Mode7) (f : Fields7) (s : State) : (setScratch7 d f s).host = s.host := rfl

/-! ### `advanceBlock` -/

@[simp] theorem advanceBlock_src (s : State) : (advanceBlock s).src = s.src := by unfold advanceBlock; dsimp only; split <;> rfl
@[simp] theorem advanceBlock_outq (s : State) : (advanceBlock s).outq = s.outq := by unfold advanceBlock; dsimp only; split <;> rfl
@[simp] theorem advanceBlock_pad (s : State) : (advanceBlock s).pad = s.pad := by unfold advanceBlock; dsimp only; split <;> rfl
@[simp] theorem advanceBlock_cmd (s : State) : (advanceBlock s).cmd = s.cmd := by unfold advanceBlock; dsimp only; split <;> rfl
@[simp] theorem advanceBlock_unit (s : State) : (advanceBlock s).unit = s.unit := by unfold advanceBlock; dsimp only; split <;> rfl
@[simp] theorem advanceBlock_fault (s : State) : (advanceBlock s).fault = s.fault := by unfold advanceBlock; dsimp only; split <;> rfl
@[simp] theorem advanceBlock_faultInfo (s : State) : (advanceBlock s).faultInfo = s.faultInfo := by unfold advanceBlock; dsimp only; split <;> rfl
@[simp] theorem advanceBlock_blkErr (s : State) : (advanceBlock s).blkErr = s.blkErr := by unfold advanceBlock; dsimp only; split <;> rfl
@[simp] theorem advanceBlock_srcLen (s : State) : (advanceBlock s).srcLen = s.srcLen := by unfold advanceBlock; dsimp only; split <;> rfl
@[simp] theorem advanceBlock_srcOff (s : State) : (advanceBlock s).srcOff = s.srcOff := by unfold advanceBlock; dsimp only; split <;> rfl
@[simp] theorem advanceBlock_lw (s : State) : (advanceBlock s).lw = s.lw := by unfold advanceBlock; dsimp only; split <;> rfl
@[simp] theorem advanceBlock_lh (s : State) : (advanceBlock s).lh = s.lh := by unfold advanceBlock; dsimp only; split <;> rfl
@[simp] theorem advanceBlock_level (s : State) : (advanceBlock s).level = s.level := by unfold advanceBlock; dsimp only; split <;> rfl
@[simp] theorem advanceBlock_hdr (s : State) : (advanceBlock s).hdr = s.hdr := by unfold advanceBlock; dsimp only; split <;> rfl
@[simp] theorem advanceBlock_ext (s : State) : (advanceBlock s).ext = s.ext := by unfold advanceBlock; dsimp only; split <;> rfl
@[simp] theorem advanceBlock_fmt (s : State) : (advanceBlock s).fmt = s.fmt := by unfold advanceBlock; dsimp only; split <;> rfl
@[simp] theorem advanceBlock_scratch (s : State) : (advanceBlock s).scratch = s.scratch := by unfold advanceBlock; dsimp only; split <;> rfl
@[simp] theorem advanceBlock_phase (s : State) : (advanceBlock s).phase = s.phase := by unfold advanceBlock; dsimp only; split <;> rfl
@[simp] theorem advanceBlock_host (s : State) : (advanceBlock s).host = s.host := by unfold advanceBlock; dsimp only; split <;> rfl

theorem advanceBlock_seq (s : State) : (advanceBlock s).seq =
    if s.seq.bx + 1 < s.seq.bwide then { s.seq with bx := s.seq.bx + 1, outOff := s.seq.outOff + 4 * outBytes s.fmt }
    else { s.seq with bx := 0, by_ := s.seq.by_ + 1, outOff := s.seq.rowStart + s.seq.stride * outBytes s.fmt * 4,
                      rowStart := s.seq.rowStart + s.seq.stride * outBytes s.fmt * 4 } := by
  unfold advanceBlock; dsimp only; split <;> rfl

end Sys2Proof.Machine
end

