-- ==== Sys2Proof/Laws/Blocks.lean ====
section
/-! SUPPORT. What the shared operations of a block can do: sequencing, the store of a tile, the end of a block. -/

namespace Sys2Proof.Machine

/-! ### Sequencing -/

@[simp] theorem andThen_next (s : State) (f : State → Result) : andThen (.next s) f = f s := rfl
@[simp] theorem andThen_fault (r : Fault) (f : State → Result) : andThen (.fault r) f = .fault r := rfl
@[simp] theorem andThen_refused (r : Refusal) (f : State → Result) : andThen (.refused r) f = .refused r := rfl

/-- A sequence that answers answered twice. -/
theorem andThen_eq_next {o : Result} {f : State → Result} {t : State} :
    andThen o f = .next t ↔ ∃ s, o = .next s ∧ f s = .next t := by
  cases o <;> simp

/-- Sequencing is associative. -/
theorem andThen_assoc (o : Result) (f g : State → Result) :
    andThen (andThen o f) g = andThen o fun s => andThen (f s) g := by
  cases o <;> rfl

/-! ### Stores to PAD -/

/-- Stores keep the size of PAD. -/
theorem padWrites_length (ws : List (Nat × Byte)) : ∀ {p q : List Byte} (_ : padWrites ws p = some q), q.length = p.length := by
  induction ws with
  | nil => intro p q h; simp only [padWrites, Option.some.injEq] at h; rw [h]
  | cons w ws ih =>
    obtain ⟨a, v⟩ := w
    intro p q h
    simp only [padWrites] at h
    split at h
    · simpa using ih h
    · cases h

/-- Stores complete exactly when every address is inside PAD. -/
theorem padWrites_isSome (ws : List (Nat × Byte)) : ∀ (p : List Byte),
    (padWrites ws p).isSome = true ↔ ∀ w ∈ ws, w.1 < p.length := by
  induction ws with
  | nil => simp [padWrites]
  | cons w ws ih =>
    obtain ⟨a, v⟩ := w
    intro p
    simp only [padWrites]
    split
    · rw [ih]; simp_all
    · simp_all

/-- An address no store names keeps its byte. -/
theorem padWrites_other (ws : List (Nat × Byte)) : ∀ {p q : List Byte} {x : Nat} (_ : padWrites ws p = some q)
    (_ : ∀ w ∈ ws, w.1 ≠ x), q[x]? = p[x]? := by
  induction ws with
  | nil => intro p q x h _; simp only [padWrites, Option.some.injEq] at h; rw [h]
  | cons w ws ih =>
    obtain ⟨a, v⟩ := w
    intro p q x h hx
    simp only [padWrites] at h
    split at h
    · rw [ih h fun w hw => hx w (List.mem_cons_of_mem _ hw)]
      have : a ≠ x := hx (a, v) (by simp)
      simp [this]
    · cases h

/-- A stored address that no later store names holds the byte stored. -/
theorem padWrites_stored (ws : List (Nat × Byte)) : ∀ {p q : List Byte} {a : Nat} {v : Byte} (_ : padWrites ws p = some q)
    (_ : (a, v) ∈ ws) (_ : (ws.map Prod.fst).Nodup), q[a]? = some v := by
  induction ws with
  | nil => simp
  | cons w ws ih =>
    obtain ⟨b, u⟩ := w
    intro p q a v h hm hn
    simp only [List.map_cons, List.nodup_cons] at hn
    simp only [padWrites] at h
    split at h
    · rename_i hb
      rcases List.mem_cons.1 hm with hm | hm
      · simp only [Prod.mk.injEq] at hm
        obtain ⟨rfl, rfl⟩ := hm
        have hne : ∀ w ∈ ws, w.1 ≠ a := fun w hw e => hn.1 (by rw [← e]; exact List.mem_map_of_mem hw)
        rw [padWrites_other ws h hne]
        simp [hb]
      · exact ih h hm hn.2
    · cases h

/-- The stores of a tile, by pixel and channel. -/
theorem mem_tileWrites {o stride obpp : Nat} {px : List Pixel} {w : Nat × Byte} :
    w ∈ tileWrites o stride obpp px ↔
      ∃ i < 16, ∃ c < obpp, w = (pixelAddr o stride obpp i c, (px.getD i []).getD c 0) := by
  simp only [tileWrites, pixelNos, List.mem_flatMap, List.mem_map, List.mem_range]
  constructor
  · rintro ⟨i, hi, c, hc, rfl⟩; exact ⟨i, hi, c, hc, rfl⟩
  · rintro ⟨i, hi, c, hc, rfl⟩; exact ⟨i, hi, c, hc, rfl⟩

/-! ### The end of a block -/

/-- What a block that answers leaves. -/
theorem finishBlock_cases {f : Fmt} {u : Tile} {s t : State} (h : finishBlock f u s = .next t) :
    ∃ p q, s.pad = some p ∧ padWrites (tileWrites s.seq.outOff s.seq.stride (outBytes f) u.px) p = some q ∧
      t = { s with pad := some q, srcOff := s.srcOff + blockBytes f, blkErr := s.blkErr || u.err,
                   scratch := { s.scratch with px := u.px } } := by
  unfold finishBlock at h
  split at h
  · cases h
  · rename_i p hp
    split at h
    · cases h
    · rename_i q hq
      simp only [Host.Outcome.next.injEq] at h
      exact ⟨p, q, hp, hq, h.symm⟩

/-- A block never refuses. -/
theorem finishBlock_ne_refused (f : Fmt) (u : Tile) (s : State) (r : Refusal) : finishBlock f u s ≠ .refused r := by
  unfold finishBlock
  split
  · simp
  · split <;> simp

/-- A block faults only for its store. -/
theorem finishBlock_fault {f : Fmt} {u : Tile} {s : State} {r : Fault} (h : finishBlock f u s = .fault r) :
    r = .padOutOfRange := by
  unfold finishBlock at h
  split at h
  · simpa using h.symm
  · split at h <;> simp_all

/-- A block whose tile fits answers. -/
theorem finishBlock_next {f : Fmt} {u : Tile} {s : State} {p : List Byte} (hp : s.pad = some p)
    (hfit : ∀ i < 16, ∀ c < outBytes f, pixelAddr s.seq.outOff s.seq.stride (outBytes f) i c < p.length) :
    ∃ q, padWrites (tileWrites s.seq.outOff s.seq.stride (outBytes f) u.px) p = some q ∧
      finishBlock f u s = .next { s with pad := some q, srcOff := s.srcOff + blockBytes f, blkErr := s.blkErr || u.err,
                                         scratch := { s.scratch with px := u.px } } := by
  have hs : (padWrites (tileWrites s.seq.outOff s.seq.stride (outBytes f) u.px) p).isSome = true := by
    rw [padWrites_isSome]
    intro w hw
    obtain ⟨i, hi, c, hc, rfl⟩ := mem_tileWrites.1 hw
    exact hfit i hi c hc
  obtain ⟨q, hq⟩ := Option.isSome_iff_exists.1 hs
  refine ⟨q, hq, ?_⟩
  simp [finishBlock, hp, hq, stickyBlkErr]

/-- The pixels of a block error: what was produced, then the fallback. -/
theorem blockError_px_length (err : Rgba Byte) {done : List Pixel} (h : done.length ≤ 16) :
    (blockError err done).px.length = 16 := by
  simp [blockError]; omega

/-! ### The trim -/

/-- The trimmed bytes have their size when every row lies inside PAD (`41_block_iteration.md` R118). -/
theorem trim_length {pad : List Byte} {stride obpp w h : Nat} (hw : w ≤ stride) (hp : h * stride * obpp ≤ pad.length) :
    (trim pad stride obpp w h).length = w * h * obpp := by
  have row : ∀ y < h, ((pad.drop (y * stride * obpp)).take (w * obpp)).length = w * obpp := by
    intro y hy
    have h₁ : (y + 1) * (stride * obpp) ≤ h * (stride * obpp) := Nat.mul_le_mul_right _ hy
    have h₂ : w * obpp ≤ stride * obpp := Nat.mul_le_mul_right _ hw
    have h₃ : (y + 1) * (stride * obpp) = y * (stride * obpp) + stride * obpp := by ring
    have h₄ : h * stride * obpp = h * (stride * obpp) := by ring
    have h₅ : y * stride * obpp = y * (stride * obpp) := by ring
    rw [List.length_take, List.length_drop]
    omega
  have total : ∀ n ≤ h, ((List.range n).flatMap fun y => (pad.drop (y * stride * obpp)).take (w * obpp)).length
      = n * (w * obpp) := by
    intro n
    induction n with
    | zero => simp
    | succ n ih =>
      intro hn
      rw [List.range_succ, List.flatMap_append, List.length_append, ih (by omega)]
      simp only [List.flatMap_cons, List.flatMap_nil, List.append_nil]
      rw [row n (by omega)]
      ring
  rw [trim, total h le_rfl]
  ring

end Sys2Proof.Machine
end

