-- ==== Sys2Proof/Laws/Bytes.lean ====
section
/-! SUPPORT. Byte lists and integers: the little-endian round trips and the lengths of what the encoder writes. -/

namespace Sys2Proof

/-- So many bytes. -/
@[simp] theorem leBytes_length (n v : Nat) : (leBytes n v).length = n := by
  induction n generalizing v with
  | zero => rfl
  | succ n ih => simp [leBytes, ih]

/-- The integer of `n` bytes is below `256^n`. -/
theorem leNat_lt (bs : List Byte) : leNat bs < 256 ^ bs.length := by
  induction bs with
  | nil => simp [leNat]
  | cons b bs ih =>
    have hb := b.isLt
    simp only [leNat, List.length_cons, pow_succ]
    omega

/-- Bytes of an integer, read back: its low part. -/
theorem leNat_leBytes (n v : Nat) : leNat (leBytes n v) = v % 256 ^ n := by
  induction n generalizing v with
  | zero => simp [leBytes, leNat, Nat.mod_one]
  | succ n ih =>
    have hb : (BitVec.ofNat 8 v).toNat = v % 256 := BitVec.toNat_ofNat v 8
    rw [leBytes, leNat, ih, hb, pow_succ, Nat.mul_comm (256 ^ n) 256, Nat.mod_mul]

/-- The integer of a byte list, written back: the bytes. -/
theorem leBytes_leNat (bs : List Byte) : leBytes bs.length (leNat bs) = bs := by
  induction bs with
  | nil => rfl
  | cons b bs ih =>
    have hb := b.isLt
    simp only [leNat, List.length_cons, leBytes, List.cons.injEq]
    refine ⟨?_, ?_⟩
    · apply BitVec.eq_of_toNat_eq
      rw [BitVec.toNat_ofNat]
      omega
    · rw [show (b.toNat + 256 * leNat bs) / 256 = leNat bs by omega, ih]

/-- Byte `k` of an integer. -/
theorem leBytes_getElem? (n v k : Nat) :
    (leBytes n v)[k]? = if k < n then some (BitVec.ofNat 8 (v / 256 ^ k)) else none := by
  induction n generalizing v k with
  | zero => simp [leBytes]
  | succ n ih =>
    cases k with
    | zero => simp [leBytes]
    | succ k => simp [leBytes, ih, pow_succ, Nat.div_div_eq_div_mul, Nat.mul_comm]

/-- The encoder writes exactly the word's length (`30_encoding.md` R70). -/
@[simp] theorem encode_length (i : Instr) : (encode i).length = i.stream.bytes := by simp [encode]

/-- Every stream but a block of no codec holds at least one byte. -/
theorem Stream.bytes_pos {st : Stream} (h : st ≠ .block .none) : 0 < st.bytes := by
  cases st with
  | block f => cases f <;> simp_all [Stream.bytes, blockBytes]
  | _ => simp [Stream.bytes]

/-- An instruction is never read from a block of no codec. -/
theorem Instr.stream_ne_none (i : Instr) : i.stream ≠ .block .none := by cases i <;> simp [Instr.stream]

end Sys2Proof
end

