-- ==== Sys2Proof/Laws/Cursor.lean ====
section
/-! SUPPORT. What the bit cursor can do: one read, and consecutive reads (`40_bit_cursor.md`). -/

namespace Sys2Proof.Machine

/-- A read of no bits. -/
@[simp] theorem Cursor.readBits_zero (c : Cursor) : c.readBits 0 = some (0, c) := rfl

/-- A read that fits. -/
theorem Cursor.readBits_fits {n : Nat} {c : Cursor} (h : c.pos + n ≤ 128) :
    c.readBits n = some (c.blk.toNat / 2 ^ c.pos % 2 ^ n, { c with pos := c.pos + n }) := by
  unfold Cursor.readBits
  split
  · rename_i h₀
    subst h₀
    simp [Nat.mod_one]
  · rw [if_neg (by omega)]

/-- A read that passes bit 127. -/
theorem Cursor.readBits_overrun {n : Nat} {c : Cursor} (hn : n ≠ 0) (h : 128 < c.pos + n) : c.readBits n = none := by
  unfold Cursor.readBits
  rw [if_neg hn, if_pos h]

/-- What a read that answers gives. -/
theorem Cursor.readBits_cases {n v : Nat} {c c' : Cursor} (h : c.readBits n = some (v, c')) :
    v = c.blk.toNat / 2 ^ c.pos % 2 ^ n ∧ c' = { c with pos := c.pos + n } ∧ (n = 0 ∨ c.pos + n ≤ 128) := by
  unfold Cursor.readBits at h
  split at h
  · rename_i h₀
    subst h₀
    simp only [Option.some.injEq, Prod.mk.injEq] at h
    obtain ⟨rfl, rfl⟩ := h
    simp [Nat.mod_one]
  · split at h
    · cases h
    · simp only [Option.some.injEq, Prod.mk.injEq] at h
      exact ⟨h.1.symm, h.2.symm, .inr (by omega)⟩

/-- A value read fits its width. -/
theorem Cursor.readBits_lt {n v : Nat} {c c' : Cursor} (h : c.readBits n = some (v, c')) : v < 2 ^ n := by
  rw [(Cursor.readBits_cases h).1]
  exact Nat.mod_lt _ (by positivity)

/-- Consecutive reads that fit: value `k` stands after the widths before it. -/
theorem Cursor.readWidths_fits (ns : List Nat) : ∀ {c : Cursor} (_ : c.pos + ns.sum ≤ 128),
    c.readWidths ns =
      some ((List.range ns.length).map (fun k => c.blk.toNat / 2 ^ (c.pos + (ns.take k).sum) % 2 ^ ns.getD k 0),
        { c with pos := c.pos + ns.sum }) := by
  induction ns with
  | nil => intro c h; rfl
  | cons n ns ih =>
    intro c h
    rw [List.sum_cons] at h
    have h₁ := Cursor.readBits_fits (n := n) (c := c) (by omega)
    have h₂ := ih (c := { c with pos := c.pos + n }) (by simp only; omega)
    simp only [Cursor.readWidths, h₁, h₂, List.length_cons, List.range_succ_eq_map, List.map_cons, List.map_map,
      List.take_zero, List.sum_nil, Nat.add_zero, List.getD_cons_zero, List.sum_cons]
    refine congrArg some (Prod.ext ?_ (by simp [Nat.add_assoc]))
    simp [Function.comp_def, Nat.add_assoc]

/-- Consecutive reads give one value each, or none. -/
theorem Cursor.readWidths_length {ns vs : List Nat} {c c' : Cursor} (h : c.readWidths ns = some (vs, c')) :
    vs.length = ns.length := by
  induction ns generalizing c vs c' with
  | nil => simp only [Cursor.readWidths, Option.some.injEq, Prod.mk.injEq] at h; simp [← h.1]
  | cons n ns ih =>
    simp only [Cursor.readWidths] at h
    split at h
    · cases h
    · split at h
      · cases h
      · rename_i h₂
        simp only [Option.some.injEq, Prod.mk.injEq] at h
        simp [← h.1, ih h₂]

end Sys2Proof.Machine
end

