-- ==== Sys2Proof/Laws/Memory.lean ====
section
/-! SUPPORT. SRC as data: every memory operation keeps the canonical form, and a read after a write gives the value written
there and the old value elsewhere. -/

namespace Sys2Proof.Machine

/-! ### Reading -/

/-- An address below every listed one reads as an unplaced byte. -/
theorem Memory.read_below {m : List Host.Cell} {a : Nat} (h : ∀ c ∈ m, a < c.1) : Memory.read m a = unplacedByte := by
  induction m with
  | nil => rfl
  | cons c r ih =>
    obtain ⟨k, v⟩ := c
    have hk : a < k := h (k, v) (by simp)
    simp only [Memory.read, if_neg (by omega : ¬k = a)]
    exact ih fun c hc => h c (by simp [hc])

/-! ### Writing one byte -/

/-- Every entry after a write is the written one or an old one. -/
theorem Memory.mem_write {m : List Host.Cell} {a : Nat} {b : Byte} {c : Host.Cell} (h : c ∈ Memory.write m a b) :
    (c = (a, b) ∧ b ≠ unplacedByte) ∨ c ∈ m := by
  induction m with
  | nil =>
    simp only [Memory.write] at h
    split at h <;> simp_all
  | cons d r ih =>
    obtain ⟨k, v⟩ := d
    simp only [Memory.write] at h
    split at h
    · split at h <;> simp_all
    · split at h
      · split at h
        · exact .inr (List.mem_cons_of_mem _ h)
        · rcases List.mem_cons.1 h with h | h
          · simp_all
          · exact .inr (List.mem_cons_of_mem _ h)
      · rcases List.mem_cons.1 h with h | h
        · simp [h]
        · rcases ih h with h | h
          · exact .inl h
          · exact .inr (by simp [h])

/-- A write keeps the canonical form. -/
theorem Memory.wf_write {m : List Host.Cell} (h : Memory.wf m) (a : Nat) (b : Byte) : Memory.wf (Memory.write m a b) := by
  refine ⟨?_, fun c hc => ?_⟩
  · have hp := h.1
    clear h
    induction m with
    | nil => simp only [Memory.write]; split <;> simp
    | cons d r ih =>
      obtain ⟨k, v⟩ := d
      have hr := List.pairwise_cons.1 hp
      simp only [Memory.write]
      split
      · split
        · exact hp
        · refine List.pairwise_cons.2 ⟨fun c hc => ?_, hp⟩
          rcases List.mem_cons.1 hc with hc | hc
          · simpa [hc]
          · have := hr.1 c hc
            simp only at this ⊢
            omega
      · split
        · split
          · exact hr.2
          · rename_i h₁ h₂ h₃
            exact List.pairwise_cons.2 ⟨fun c hc => by have := hr.1 c hc; simp only at this ⊢; omega, hr.2⟩
        · refine List.pairwise_cons.2 ⟨fun c hc => ?_, ih hr.2⟩
          rcases Memory.mem_write hc with ⟨hc, -⟩ | hc
          · simp only [hc]; omega
          · exact hr.1 c hc
  · rcases Memory.mem_write hc with ⟨hc, hb⟩ | hc
    · simpa [hc]
    · exact h.2 c hc

/-- What a byte reads as after one write. -/
theorem Memory.read_write {m : List Host.Cell} (h : Memory.wf m) (a x : Nat) (b : Byte) :
    Memory.read (Memory.write m a b) x = if x = a then b else Memory.read m x := by
  have hp := h.1
  clear h
  induction m with
  | nil =>
    simp only [Memory.write]
    by_cases hx : x = a
    · subst hx; split <;> simp_all [Memory.read]
    · have : ¬a = x := fun e => hx e.symm
      split <;> simp [Memory.read, this]
  | cons d r ih =>
    obtain ⟨k, v⟩ := d
    have hr := List.pairwise_cons.1 hp
    have below : ∀ y, y ≤ k → Memory.read r y = unplacedByte := fun y hy =>
      Memory.read_below fun c hc => by have := hr.1 c hc; simp only at this; omega
    simp only [Memory.write]
    by_cases hx : x = a
    · subst hx
      split
      · split
        · rename_i h₁ h₂
          have hkx : ¬k = x := by omega
          simp [Memory.read, h₂, below x (by omega), hkx]
        · simp [Memory.read]
      · split
        · rename_i h₁ h₂
          split
          · rename_i h₃
            simp [h₃, below x (by omega)]
          · simp [Memory.read]
        · rename_i h₁ h₂
          have hkx : ¬k = x := by omega
          simp [Memory.read, hkx, ih hr.2]
    · have hax : ¬a = x := fun e => hx e.symm
      split
      · split <;> simp [Memory.read, hax]
      · split
        · rename_i h₁ h₂
          have hkx : ¬k = x := by omega
          split <;> simp [Memory.read, hax, hkx]
        · simp [Memory.read, hx, ih hr.2]

/-- The byte just written. -/
theorem Memory.read_write_same {m : List Host.Cell} (h : Memory.wf m) (a : Nat) (b : Byte) :
    Memory.read (Memory.write m a b) a = b := by simp [Memory.read_write h]

/-- A write leaves every other byte alone. -/
theorem Memory.read_write_other {m : List Host.Cell} (h : Memory.wf m) {a x : Nat} (hx : x ≠ a) (b : Byte) :
    Memory.read (Memory.write m a b) x = Memory.read m x := by simp [Memory.read_write h, hx]

/-! ### Writing bytes -/

/-- Placing bytes keeps the canonical form. -/
theorem Memory.wf_writeBytes (bs : List Byte) : ∀ {m : List Host.Cell} (_ : Memory.wf m) (a : Nat),
    Memory.wf (Memory.writeBytes m a bs) := by
  induction bs with
  | nil => intro m h a; exact h
  | cons b bs ih => intro m h a; exact ih (Memory.wf_write h a b) (a + 1)

/-- The empty memory is canonical. -/
theorem Memory.wf_nil : Memory.wf [] := ⟨List.Pairwise.nil, by simp⟩

/-- Reset memory is canonical. -/
theorem State.reset_src_wf : Memory.wf State.reset.src := Memory.wf_nil

/-! ### Reading bytes -/

/-- A read of `n` bytes has `n` bytes. -/
@[simp] theorem Memory.readBytes_length (m : List Host.Cell) (a n : Nat) : (Memory.readBytes m a n).length = n := by
  simp [Memory.readBytes]

/-- Byte `k` of a read. -/
theorem Memory.readBytes_getElem? (m : List Host.Cell) (a n k : Nat) :
    (Memory.readBytes m a n)[k]? = if k < n then some (Memory.read m (a + k)) else none := by
  simp only [Memory.readBytes, List.getElem?_map]
  split <;> simp_all

/-- A read inside SRC gives its bytes (`20_memory.md` R52). -/
theorem memRead_some {s : State} {a n : Nat} (h : a + n ≤ s.srcLen) : memRead s a n = some (Memory.readBytes s.src a n) :=
  if_pos h

/-- What a read that answers gives. -/
theorem memRead_cases {s : State} {a n : Nat} {bs : List Byte} (h : memRead s a n = some bs) :
    a + n ≤ s.srcLen ∧ bs = Memory.readBytes s.src a n := by
  unfold memRead at h
  split at h
  · exact ⟨‹_›, by simpa using h.symm⟩
  · cases h

/-- A header word inside SRC_LEN is the little-endian value of its four bytes (`20_memory.md` R50, `46_resolver.md` R237). -/
theorem srcWord_some {s : State} {off : Nat} (h : off + 4 ≤ s.srcLen) :
    srcWord s off = some (BitVec.ofNat 32 ((Memory.read s.src off).toNat + 2 ^ 8 * (Memory.read s.src (off + 1)).toNat +
      2 ^ 16 * (Memory.read s.src (off + 2)).toNat + 2 ^ 24 * (Memory.read s.src (off + 3)).toNat)) := by
  have hb : Memory.readBytes s.src off 4 = [Memory.read s.src off, Memory.read s.src (off + 1), Memory.read s.src (off + 2),
      Memory.read s.src (off + 3)] := rfl
  simp only [srcWord, memRead, if_pos h, Option.map_some, hb, leNat]
  congr 2
  omega

end Sys2Proof.Machine
end

