-- ==== Sys2Proof/Laws/Exec.lean ====
section
/-! SUPPORT. What the parts of a command and of a step can do: one inversion lemma each, so that no proof unfolds them twice. -/

namespace Sys2Proof.Machine

/-! ### Blocks and codes -/

/-- Inside a command an instruction means what `exec` says it means. -/
theorem exec_eq_execInner {i : Instr} (h : i.stream ≠ .cmd) (s : State) : exec i s = execInner i s := by
  cases i <;> first | rfl | exact absurd rfl h

/-- A choice between instructions of one stream is of that stream. -/
theorem stream_ite {c : Prop} [Decidable c] {i j : Instr} {st : Stream} (hi : i.stream = st) (hj : j.stream = st) :
    (if c then i else j).stream = st := by split <;> assumption

/-- Every block of a codec decodes to an instruction of that codec. -/
theorem decodeBlk_stream {f : Fmt} {v : Nat} {i : Instr} (h : decodeBlk f v = .ok i) : i.stream = .block f := by
  cases f <;> simp only [decodeBlk, Except.ok.injEq, reduceCtorEq] at h
  case bc6h => subst h; simp only [splitBc6h]; repeat refine stream_ite rfl ?_
               rfl
  case bc7 => subst h; simp only [splitBc7]; repeat refine stream_ite rfl ?_
              rfl
  all_goals (subst h; rfl)

/-- A block of a codec always decodes (`41_block_iteration.md` R120). -/
theorem decodeBlk_ok {f : Fmt} (hf : f ≠ .none) (v : Nat) : ∃ i, decodeBlk f v = .ok i := by
  cases f <;> first | exact absurd rfl hf | exact ⟨_, rfl⟩

/-- What the decoder gives for a word of exactly its length. -/
theorem decode_exact {st : Stream} {bs : List Byte} (h : bs.length = st.bytes) {i : Instr}
    (hi : decodeNat st (leNat bs) = .ok i) : decode st bs = .ok (i, []) := by
  have h₁ : ¬bs.length < st.bytes := by omega
  simp only [decode, if_neg h₁, List.take_of_length_le h.le, hi, List.drop_of_length_le h.le]

/-- A block fetch that answers read its bytes inside SRC and decoded them under FMT (`41_block_iteration.md` R115). -/
theorem fetchBlock_cases {s t : State} {i : Instr} (h : fetchBlock s = .ok (i, t)) :
    s.fmt ≠ .none ∧ s.srcOff + blockBytes s.fmt ≤ s.srcLen ∧
      decode (.block s.fmt) (Memory.readBytes s.src s.srcOff (blockBytes s.fmt)) = .ok (i, []) ∧
      t = { s with scratch := { s.scratch with
              blk := overwrite s.scratch.blk (Memory.readBytes s.src s.srcOff (blockBytes s.fmt)), bitpos := 0 } } := by
  unfold fetchBlock at h
  split at h
  · cases h
  · rename_i hf
    split at h
    · cases h
    · rename_i bs hb
      obtain ⟨hfit, rfl⟩ := memRead_cases hb
      split at h
      · rename_i j rest hd
        simp only [Except.ok.injEq, Prod.mk.injEq] at h
        obtain ⟨rfl, rfl⟩ := h
        refine ⟨hf, hfit, ?_, rfl⟩
        have hl : (Memory.readBytes s.src s.srcOff (blockBytes s.fmt)).length = (Stream.block s.fmt).bytes := by
          simp [Stream.bytes]
        obtain ⟨k, hk⟩ := decodeBlk_ok hf (leNat (Memory.readBytes s.src s.srcOff (blockBytes s.fmt)))
        have he := decode_exact hl (i := k) hk
        rw [he] at hd
        simp only [Except.ok.injEq, Prod.mk.injEq] at hd
        rw [he, hd.1]
      · cases h

/-- A block inside SRC is fetched. -/
theorem fetchBlock_ok {s : State} (hf : s.fmt ≠ .none) (h : s.srcOff + blockBytes s.fmt ≤ s.srcLen) :
    ∃ i t, fetchBlock s = .ok (i, t) := by
  obtain ⟨i, hi⟩ := decodeBlk_ok hf (leNat (Memory.readBytes s.src s.srcOff (blockBytes s.fmt)))
  have hd := decode_exact (st := .block s.fmt) (by simp [Stream.bytes]) hi
  refine ⟨i, { s with scratch := { s.scratch with
    blk := overwrite s.scratch.blk (Memory.readBytes s.src s.srcOff (blockBytes s.fmt)), bitpos := 0 } }, ?_⟩
  simp only [fetchBlock, if_neg hf, memRead_some h, hd]

/-! ### A level -/

/-- The start of a level with a codec: the fault, or PAD allocated (`41_block_iteration.md` R111-R113). -/
theorem levelStart_cases {p : Phase} {s t : State} (h : levelStart p s = .next t) :
    s.fmt ≠ .none ∧
      ((levelTruncated (setGrid s) = true ∧ t = raise .truncatedStream s.level (setGrid s)) ∨
       (levelTruncated (setGrid s) = false ∧ t = allocPad p (setGrid s))) := by
  unfold levelStart at h
  split at h
  · cases h
  · rename_i hf
    refine ⟨hf, ?_⟩
    dsimp only at h
    split at h
    · rename_i ht
      exact .inl ⟨ht, by simpa using h.symm⟩
    · rename_i ht
      exact .inr ⟨by simpa using ht, by simpa using h.symm⟩

/-- The size check with unbounded offsets (`41_block_iteration.md` R112). -/
theorem levelTruncated_iff (s : State) : levelTruncated s = true ↔ s.srcLen < s.srcOff + levelSize s := by
  simp [levelTruncated, offFits, config]

/-- The end of a level: its record, PAD discarded (`41_block_iteration.md` R118, R119). -/
theorem levelFinish_cases {s t : State} (h : levelFinish s = .next t) :
    ∃ p, s.pad = some p ∧
      (trim p s.seq.stride (outBytes s.fmt) s.lw.toNat s.lh.toNat).length = s.lw.toNat * s.lh.toNat * outBytes s.fmt ∧
      t = { s with
              outq := s.outq ++ [⟨s.level, s.lw, s.lh, s.fmt, trim p s.seq.stride (outBytes s.fmt) s.lw.toNat s.lh.toNat⟩],
              pad := none, phase := .waiting } := by
  unfold levelFinish at h
  split at h
  · cases h
  · rename_i p hp
    dsimp only at h
    split at h
    · rename_i hl
      exact ⟨p, hp, hl, by simpa using h.symm⟩
    · cases h

/-- One block of a level that answers. -/
theorem blockStep_cases {s t : State} (h : blockStep s = .next t) :
    ∃ i s₁ u, fetchBlock s = .ok (i, s₁) ∧ execInner i s₁ = .next u ∧ t = advanceBlock u := by
  unfold blockStep at h
  split at h
  · cases h
  · rename_i i s₁ hf
    obtain ⟨u, hu, ht⟩ := andThen_eq_next.1 h
    exact ⟨i, s₁, u, hf, hu, by simpa using ht.symm⟩

/-! ### A step -/

/-- What a step that answers did. -/
theorem step_cases {s t : State} (h : step s = .next t) :
    (fetch s = .ok .nothing ∧ t = s) ∨
    (∃ a u, fetch s = .ok (.action a u) ∧ hostAct a u = .next t) ∨
    (∃ i u v, fetch s = .ok (.instr i u) ∧ exec i u = .next v ∧ retire s.phase v = .next t) := by
  unfold step at h
  split at h
  · cases h
  · rename_i hf
    exact .inl ⟨hf, by simpa using h.symm⟩
  · rename_i a u hf
    exact .inr (.inl ⟨a, u, hf, h⟩)
  · rename_i i u hf
    obtain ⟨v, hv, ht⟩ := andThen_eq_next.1 h
    exact .inr (.inr ⟨i, u, v, hf, hv, ht⟩)

end Sys2Proof.Machine
end

