-- ==== Sys2Proof/Laws/PerInstr.lean ====
section
/-! SUPPORT. The family EncodedLength, one lemma per constructor: the word of an instruction fits its length, and the encoder
writes exactly that many bytes (`30_encoding.md` R70). -/

namespace Sys2Proof.Laws

/-- The word fits its length and the encoder writes that many bytes. -/
def EncodedLength.Statement (i : Instr) : Prop := i.word < 256 ^ i.stream.bytes ∧ (encode i).length = i.stream.bytes

/-- A 64-bit word fits eight bytes. -/
theorem word64_fits (x : BitVec 64) : x.toNat < 256 ^ 8 := lt_of_lt_of_le x.isLt (by norm_num)

/-- A 128-bit word fits sixteen bytes. -/
theorem word128_fits (x : BitVec 128) : x.toNat < 256 ^ 16 := lt_of_lt_of_le x.isLt (by norm_num)

/-- A 32-bit word fits four bytes. -/
theorem word32_fits (x : BitVec 32) : x.toNat < 256 ^ 4 := lt_of_lt_of_le x.isLt (by norm_num)

theorem EncodedLength.bc1 (c0 : BitVec 16) (c1 : BitVec 16) (sel : BitVec 32) : EncodedLength.Statement (.bc1 c0 c1 sel) :=
  ⟨word64_fits _, encode_length _⟩
theorem EncodedLength.bc2 (alpha : BitVec 64) (c0 : BitVec 16) (c1 : BitVec 16) (sel : BitVec 32) : EncodedLength.Statement (.bc2 alpha c0 c1 sel) :=
  ⟨word128_fits _, encode_length _⟩
theorem EncodedLength.bc3 (e0 : BitVec 8) (e1 : BitVec 8) (asel : BitVec 48) (c0 : BitVec 16) (c1 : BitVec 16) (sel : BitVec 32) : EncodedLength.Statement (.bc3 e0 e1 asel c0 c1 sel) :=
  ⟨word128_fits _, encode_length _⟩
theorem EncodedLength.bc4 (e0 : BitVec 8) (e1 : BitVec 8) (sel : BitVec 48) : EncodedLength.Statement (.bc4 e0 e1 sel) :=
  ⟨word64_fits _, encode_length _⟩
theorem EncodedLength.bc4s (e0 : BitVec 8) (e1 : BitVec 8) (sel : BitVec 48) : EncodedLength.Statement (.bc4s e0 e1 sel) :=
  ⟨word64_fits _, encode_length _⟩
theorem EncodedLength.bc5 (re0 : BitVec 8) (re1 : BitVec 8) (rsel : BitVec 48) (ge0 : BitVec 8) (ge1 : BitVec 8) (gsel : BitVec 48) : EncodedLength.Statement (.bc5 re0 re1 rsel ge0 ge1 gsel) :=
  ⟨word128_fits _, encode_length _⟩
theorem EncodedLength.bc5s (re0 : BitVec 8) (re1 : BitVec 8) (rsel : BitVec 48) (ge0 : BitVec 8) (ge1 : BitVec 8) (gsel : BitVec 48) : EncodedLength.Statement (.bc5s re0 re1 rsel ge0 ge1 gsel) :=
  ⟨word128_fits _, encode_length _⟩
theorem EncodedLength.bc6hM1 (header : BitVec 80) (indices : BitVec 46) : EncodedLength.Statement (.bc6hM1 header indices) :=
  ⟨word128_fits _, encode_length _⟩
theorem EncodedLength.bc6hM2 (header : BitVec 80) (indices : BitVec 46) : EncodedLength.Statement (.bc6hM2 header indices) :=
  ⟨word128_fits _, encode_length _⟩
theorem EncodedLength.bc6hM3 (header : BitVec 77) (indices : BitVec 46) : EncodedLength.Statement (.bc6hM3 header indices) :=
  ⟨word128_fits _, encode_length _⟩
theorem EncodedLength.bc6hM4 (header : BitVec 77) (indices : BitVec 46) : EncodedLength.Statement (.bc6hM4 header indices) :=
  ⟨word128_fits _, encode_length _⟩
theorem EncodedLength.bc6hM5 (header : BitVec 77) (indices : BitVec 46) : EncodedLength.Statement (.bc6hM5 header indices) :=
  ⟨word128_fits _, encode_length _⟩
theorem EncodedLength.bc6hM6 (header : BitVec 77) (indices : BitVec 46) : EncodedLength.Statement (.bc6hM6 header indices) :=
  ⟨word128_fits _, encode_length _⟩
theorem EncodedLength.bc6hM7 (header : BitVec 77) (indices : BitVec 46) : EncodedLength.Statement (.bc6hM7 header indices) :=
  ⟨word128_fits _, encode_length _⟩
theorem EncodedLength.bc6hM8 (header : BitVec 77) (indices : BitVec 46) : EncodedLength.Statement (.bc6hM8 header indices) :=
  ⟨word128_fits _, encode_length _⟩
theorem EncodedLength.bc6hM9 (header : BitVec 77) (indices : BitVec 46) : EncodedLength.Statement (.bc6hM9 header indices) :=
  ⟨word128_fits _, encode_length _⟩
theorem EncodedLength.bc6hM10 (header : BitVec 77) (indices : BitVec 46) : EncodedLength.Statement (.bc6hM10 header indices) :=
  ⟨word128_fits _, encode_length _⟩
theorem EncodedLength.bc6hM11 (header : BitVec 60) (indices : BitVec 63) : EncodedLength.Statement (.bc6hM11 header indices) :=
  ⟨word128_fits _, encode_length _⟩
theorem EncodedLength.bc6hM12 (header : BitVec 60) (indices : BitVec 63) : EncodedLength.Statement (.bc6hM12 header indices) :=
  ⟨word128_fits _, encode_length _⟩
theorem EncodedLength.bc6hM13 (header : BitVec 60) (indices : BitVec 63) : EncodedLength.Statement (.bc6hM13 header indices) :=
  ⟨word128_fits _, encode_length _⟩
theorem EncodedLength.bc6hM14 (header : BitVec 60) (indices : BitVec 63) : EncodedLength.Statement (.bc6hM14 header indices) :=
  ⟨word128_fits _, encode_length _⟩
theorem EncodedLength.bc6hRsv13 (ignored : BitVec 123) : EncodedLength.Statement (.bc6hRsv13 ignored) :=
  ⟨word128_fits _, encode_length _⟩
theorem EncodedLength.bc6hRsv17 (ignored : BitVec 123) : EncodedLength.Statement (.bc6hRsv17 ignored) :=
  ⟨word128_fits _, encode_length _⟩
theorem EncodedLength.bc6hRsv1B (ignored : BitVec 123) : EncodedLength.Statement (.bc6hRsv1B ignored) :=
  ⟨word128_fits _, encode_length _⟩
theorem EncodedLength.bc6hRsv1F (ignored : BitVec 123) : EncodedLength.Statement (.bc6hRsv1F ignored) :=
  ⟨word128_fits _, encode_length _⟩
theorem EncodedLength.bc7M0 (shape : BitVec 4) (r : BitVec 24) (g : BitVec 24) (b : BitVec 24) (pbits : BitVec 6) (primary : BitVec 45) : EncodedLength.Statement (.bc7M0 shape r g b pbits primary) :=
  ⟨word128_fits _, encode_length _⟩
theorem EncodedLength.bc7M1 (shape : BitVec 6) (r : BitVec 24) (g : BitVec 24) (b : BitVec 24) (pbits : BitVec 2) (primary : BitVec 46) : EncodedLength.Statement (.bc7M1 shape r g b pbits primary) :=
  ⟨word128_fits _, encode_length _⟩
theorem EncodedLength.bc7M2 (shape : BitVec 6) (r : BitVec 30) (g : BitVec 30) (b : BitVec 30) (primary : BitVec 29) : EncodedLength.Statement (.bc7M2 shape r g b primary) :=
  ⟨word128_fits _, encode_length _⟩
theorem EncodedLength.bc7M3 (shape : BitVec 6) (r : BitVec 28) (g : BitVec 28) (b : BitVec 28) (pbits : BitVec 4) (primary : BitVec 30) : EncodedLength.Statement (.bc7M3 shape r g b pbits primary) :=
  ⟨word128_fits _, encode_length _⟩
theorem EncodedLength.bc7M4 (rot : BitVec 2) (isel : BitVec 1) (r : BitVec 10) (g : BitVec 10) (b : BitVec 10) (a : BitVec 12) (primary : BitVec 31) (secondary : BitVec 47) : EncodedLength.Statement (.bc7M4 rot isel r g b a primary secondary) :=
  ⟨word128_fits _, encode_length _⟩
theorem EncodedLength.bc7M5 (rot : BitVec 2) (r : BitVec 14) (g : BitVec 14) (b : BitVec 14) (a : BitVec 16) (primary : BitVec 31) (secondary : BitVec 31) : EncodedLength.Statement (.bc7M5 rot r g b a primary secondary) :=
  ⟨word128_fits _, encode_length _⟩
theorem EncodedLength.bc7M6 (r : BitVec 14) (g : BitVec 14) (b : BitVec 14) (a : BitVec 14) (pbits : BitVec 2) (primary : BitVec 63) : EncodedLength.Statement (.bc7M6 r g b a pbits primary) :=
  ⟨word128_fits _, encode_length _⟩
theorem EncodedLength.bc7M7 (shape : BitVec 6) (r : BitVec 20) (g : BitVec 20) (b : BitVec 20) (a : BitVec 20) (pbits : BitVec 4) (primary : BitVec 30) : EncodedLength.Statement (.bc7M7 shape r g b a pbits primary) :=
  ⟨word128_fits _, encode_length _⟩
theorem EncodedLength.bc7Rsv (ignored : BitVec 120) : EncodedLength.Statement (.bc7Rsv ignored) :=
  ⟨word128_fits _, encode_length _⟩
theorem EncodedLength.fourccDxt1 : EncodedLength.Statement .fourccDxt1 :=
  ⟨Nat.le_of_ble_eq_true rfl, encode_length _⟩
theorem EncodedLength.fourccDxt2 : EncodedLength.Statement .fourccDxt2 :=
  ⟨Nat.le_of_ble_eq_true rfl, encode_length _⟩
theorem EncodedLength.fourccDxt3 : EncodedLength.Statement .fourccDxt3 :=
  ⟨Nat.le_of_ble_eq_true rfl, encode_length _⟩
theorem EncodedLength.fourccDxt4 : EncodedLength.Statement .fourccDxt4 :=
  ⟨Nat.le_of_ble_eq_true rfl, encode_length _⟩
theorem EncodedLength.fourccDxt5 : EncodedLength.Statement .fourccDxt5 :=
  ⟨Nat.le_of_ble_eq_true rfl, encode_length _⟩
theorem EncodedLength.fourccAti1 : EncodedLength.Statement .fourccAti1 :=
  ⟨Nat.le_of_ble_eq_true rfl, encode_length _⟩
theorem EncodedLength.fourccBc4u : EncodedLength.Statement .fourccBc4u :=
  ⟨Nat.le_of_ble_eq_true rfl, encode_length _⟩
theorem EncodedLength.fourccBc4s : EncodedLength.Statement .fourccBc4s :=
  ⟨Nat.le_of_ble_eq_true rfl, encode_length _⟩
theorem EncodedLength.fourccAti2 : EncodedLength.Statement .fourccAti2 :=
  ⟨Nat.le_of_ble_eq_true rfl, encode_length _⟩
theorem EncodedLength.fourccBc5u : EncodedLength.Statement .fourccBc5u :=
  ⟨Nat.le_of_ble_eq_true rfl, encode_length _⟩
theorem EncodedLength.fourccBc5s : EncodedLength.Statement .fourccBc5s :=
  ⟨Nat.le_of_ble_eq_true rfl, encode_length _⟩
theorem EncodedLength.fourccDx10 : EncodedLength.Statement .fourccDx10 :=
  ⟨Nat.le_of_ble_eq_true rfl, encode_length _⟩
theorem EncodedLength.fourccOther (w : Word) : EncodedLength.Statement (.fourccOther w) :=
  ⟨word32_fits _, encode_length _⟩
theorem EncodedLength.xfmt70 : EncodedLength.Statement .xfmt70 :=
  ⟨Nat.le_of_ble_eq_true rfl, encode_length _⟩
theorem EncodedLength.xfmt71 : EncodedLength.Statement .xfmt71 :=
  ⟨Nat.le_of_ble_eq_true rfl, encode_length _⟩
theorem EncodedLength.xfmt72 : EncodedLength.Statement .xfmt72 :=
  ⟨Nat.le_of_ble_eq_true rfl, encode_length _⟩
theorem EncodedLength.xfmt73 : EncodedLength.Statement .xfmt73 :=
  ⟨Nat.le_of_ble_eq_true rfl, encode_length _⟩
theorem EncodedLength.xfmt74 : EncodedLength.Statement .xfmt74 :=
  ⟨Nat.le_of_ble_eq_true rfl, encode_length _⟩
theorem EncodedLength.xfmt75 : EncodedLength.Statement .xfmt75 :=
  ⟨Nat.le_of_ble_eq_true rfl, encode_length _⟩
theorem EncodedLength.xfmt76 : EncodedLength.Statement .xfmt76 :=
  ⟨Nat.le_of_ble_eq_true rfl, encode_length _⟩
theorem EncodedLength.xfmt77 : EncodedLength.Statement .xfmt77 :=
  ⟨Nat.le_of_ble_eq_true rfl, encode_length _⟩
theorem EncodedLength.xfmt78 : EncodedLength.Statement .xfmt78 :=
  ⟨Nat.le_of_ble_eq_true rfl, encode_length _⟩
theorem EncodedLength.xfmt79 : EncodedLength.Statement .xfmt79 :=
  ⟨Nat.le_of_ble_eq_true rfl, encode_length _⟩
theorem EncodedLength.xfmt80 : EncodedLength.Statement .xfmt80 :=
  ⟨Nat.le_of_ble_eq_true rfl, encode_length _⟩
theorem EncodedLength.xfmt81 : EncodedLength.Statement .xfmt81 :=
  ⟨Nat.le_of_ble_eq_true rfl, encode_length _⟩
theorem EncodedLength.xfmt82 : EncodedLength.Statement .xfmt82 :=
  ⟨Nat.le_of_ble_eq_true rfl, encode_length _⟩
theorem EncodedLength.xfmt83 : EncodedLength.Statement .xfmt83 :=
  ⟨Nat.le_of_ble_eq_true rfl, encode_length _⟩
theorem EncodedLength.xfmt84 : EncodedLength.Statement .xfmt84 :=
  ⟨Nat.le_of_ble_eq_true rfl, encode_length _⟩
theorem EncodedLength.xfmt94 : EncodedLength.Statement .xfmt94 :=
  ⟨Nat.le_of_ble_eq_true rfl, encode_length _⟩
theorem EncodedLength.xfmt95 : EncodedLength.Statement .xfmt95 :=
  ⟨Nat.le_of_ble_eq_true rfl, encode_length _⟩
theorem EncodedLength.xfmt96 : EncodedLength.Statement .xfmt96 :=
  ⟨Nat.le_of_ble_eq_true rfl, encode_length _⟩
theorem EncodedLength.xfmt97 : EncodedLength.Statement .xfmt97 :=
  ⟨Nat.le_of_ble_eq_true rfl, encode_length _⟩
theorem EncodedLength.xfmt98 : EncodedLength.Statement .xfmt98 :=
  ⟨Nat.le_of_ble_eq_true rfl, encode_length _⟩
theorem EncodedLength.xfmt99 : EncodedLength.Statement .xfmt99 :=
  ⟨Nat.le_of_ble_eq_true rfl, encode_length _⟩
theorem EncodedLength.xfmtOther (w : Word) : EncodedLength.Statement (.xfmtOther w) :=
  ⟨word32_fits _, encode_length _⟩
theorem EncodedLength.cmdNop : EncodedLength.Statement .cmdNop :=
  ⟨Nat.le_of_ble_eq_true rfl, encode_length _⟩
theorem EncodedLength.cmdResolve : EncodedLength.Statement .cmdResolve :=
  ⟨Nat.le_of_ble_eq_true rfl, encode_length _⟩
theorem EncodedLength.cmdLevel : EncodedLength.Statement .cmdLevel :=
  ⟨Nat.le_of_ble_eq_true rfl, encode_length _⟩
theorem EncodedLength.cmdChain : EncodedLength.Statement .cmdChain :=
  ⟨Nat.le_of_ble_eq_true rfl, encode_length _⟩
theorem EncodedLength.cmdReset : EncodedLength.Statement .cmdReset :=
  ⟨Nat.le_of_ble_eq_true rfl, encode_length _⟩
theorem EncodedLength.cmdRsv5 : EncodedLength.Statement .cmdRsv5 :=
  ⟨Nat.le_of_ble_eq_true rfl, encode_length _⟩
theorem EncodedLength.cmdRsv6 : EncodedLength.Statement .cmdRsv6 :=
  ⟨Nat.le_of_ble_eq_true rfl, encode_length _⟩
theorem EncodedLength.cmdRsv7 : EncodedLength.Statement .cmdRsv7 :=
  ⟨Nat.le_of_ble_eq_true rfl, encode_length _⟩

end Sys2Proof.Laws
end

