-- ==== Sys2Proof/Tests/Slice0.lean ====
section
/-! SUPPORT. The model's own tests: well-formedness, the decoding of every constructor, one step per instruction on small
states with the pixels the spec prints, and a witness for the hypotheses of every statement. -/

namespace Sys2Proof.Tests

open Sys2Proof Sys2Proof.Machine Sys2Proof.Safety Sys2Proof.Claims

/-! ## Helpers -/

/-- What the decoder reads from bytes that hold one word. -/
def read (st : Stream) (bs : List Byte) : Option Instr :=
  match decode st bs with
  | .ok (i, []) => some i
  | .ok (_, _ :: _) => none
  | .error _ => none

/-- What the decoder reads from a block integer. -/
def readBlock (f : Fmt) (v : Nat) : Option Instr := read (.block f) (leBytes (blockBytes f) v)

/-- A property of the next state. -/
def nextIs (r : Result) (p : State → Bool) : Bool :=
  match r with
  | .next t => p t
  | .fault _ => false
  | .refused _ => false

/-- Four pixels (numbers 0, 1, 7, 15) of the one-block level a step decodes, and whether BLKERR is set after it. -/
def tilePixels (f : Fmt) (v : Nat) : Option (List (List Nat) × Bool) :=
  match step (placeBlock f v State.reset) with
  | .next t =>
    match t.outq with
    | [r] =>
      some ([0, 1, 7, 15].map fun i => ((r.bytes.drop (i * outBytes f)).take (outBytes f)).map BitVec.toNat, t.blkErr)
    | _ => none
  | .fault _ => none
  | .refused _ => none

/-! ## Well-formedness -/

/-- A default row does not stand for a word that has a row of its own (`30_encoding.md` R73). -/
theorem test_wellFormed_refuses_known_fourcc : wellFormed (.fourccOther 0x31545844) = false := by decide

/-- The same for an enumerant (`30_encoding.md` R74). -/
theorem test_wellFormed_refuses_known_enumerant : wellFormed (.xfmtOther 96) = false := by decide

/-- A word without a row is well-formed under the default row. -/
theorem test_wellFormed_accepts_unknown_words :
    wellFormed (.fourccOther 0x20534444) = true ∧ wellFormed (.xfmtOther 2) = true := by decide

/-! ## Decoding: words written from the spec's encodings, the first and the last bit of every field set -/

/-- Fixed-gradient blocks (`30_encoding.md` R75-R78). -/
theorem test_decode_fixed_gradient :
    readBlock .bc1 0x8000000780058003 = some (.bc1 0x8003 0x8005 0x80000007) ∧
    readBlock .bc2 0x80000009800780058000000000000003 = some (.bc2 0x8000000000000003 0x8005 0x8007 0x80000009) ∧
    readBlock .bc3 0x8000000d800b80098000000000078583 = some (.bc3 0x83 0x85 0x800000000007 0x8009 0x800b 0x8000000d) ∧
    readBlock .bc4 0x8000000000078583 = some (.bc4 0x83 0x85 0x800000000007) ∧
    readBlock .bc4s 0x8000000000078583 = some (.bc4s 0x83 0x85 0x800000000007) ∧
    readBlock .bc5 0x80000000000d8b898000000000078583 = some (.bc5 0x83 0x85 0x800000000007 0x89 0x8b 0x80000000000d) ∧
    readBlock .bc5s 0x80000000000d8b898000000000078583 = some (.bc5s 0x83 0x85 0x800000000007 0x89 0x8b 0x80000000000d) := by decide

/-- BC6H modes (`30_encoding.md` R79, R80): the mode field, the header to `HL - 1`, the indices to bit 127. -/
theorem test_decode_bc6h_two_regions :
    readBlock .bc6h 0x8000000000160000000000000000000c = some (.bc6hM1 0x80000000000000000003 0x200000000005) ∧
    readBlock .bc6h 0x8000000000160000000000000000000d = some (.bc6hM2 0x80000000000000000003 0x200000000005) ∧
    readBlock .bc6h 0x80000000001600000000000000000062 = some (.bc6hM3 0x10000000000000000003 0x200000000005) ∧
    readBlock .bc6h 0x80000000001600000000000000000066 = some (.bc6hM4 0x10000000000000000003 0x200000000005) ∧
    readBlock .bc6h 0x8000000000160000000000000000006a = some (.bc6hM5 0x10000000000000000003 0x200000000005) ∧
    readBlock .bc6h 0x8000000000160000000000000000006e = some (.bc6hM6 0x10000000000000000003 0x200000000005) ∧
    readBlock .bc6h 0x80000000001600000000000000000072 = some (.bc6hM7 0x10000000000000000003 0x200000000005) ∧
    readBlock .bc6h 0x80000000001600000000000000000076 = some (.bc6hM8 0x10000000000000000003 0x200000000005) ∧
    readBlock .bc6h 0x8000000000160000000000000000007a = some (.bc6hM9 0x10000000000000000003 0x200000000005) ∧
    readBlock .bc6h 0x8000000000160000000000000000007e = some (.bc6hM10 0x10000000000000000003 0x200000000005) := by decide

/-- BC6H one-region modes (`30_encoding.md` R79, R80). -/
theorem test_decode_bc6h_one_region :
    readBlock .bc6h 0x800000000000000b0000000000000063 = some (.bc6hM11 0x800000000000003 0x4000000000000005) ∧
    readBlock .bc6h 0x800000000000000b0000000000000067 = some (.bc6hM12 0x800000000000003 0x4000000000000005) ∧
    readBlock .bc6h 0x800000000000000b000000000000006b = some (.bc6hM13 0x800000000000003 0x4000000000000005) ∧
    readBlock .bc6h 0x800000000000000b000000000000006f = some (.bc6hM14 0x800000000000003 0x4000000000000005) := by decide

/-- BC6H reserved selectors (`30_encoding.md` R84). -/
theorem test_decode_bc6h_reserved :
    readBlock .bc6h 0x80000000000000000000000000000073 = some (.bc6hRsv13 0x4000000000000000000000000000003) ∧
    readBlock .bc6h 0x80000000000000000000000000000077 = some (.bc6hRsv17 0x4000000000000000000000000000003) ∧
    readBlock .bc6h 0x8000000000000000000000000000007b = some (.bc6hRsv1B 0x4000000000000000000000000000003) ∧
    readBlock .bc6h 0x8000000000000000000000000000007f = some (.bc6hRsv1F 0x4000000000000000000000000000003) := by decide

/-- BC7 modes (`30_encoding.md` R81, R82) and the reserved block. -/
theorem test_decode_bc7 :
    readBlock .bc7 0x80000000006d700001300000f00000b7 = some (.bc7M0 0xb 0x800005 0x800007 0x800009 0x2b 0x10000000000d) ∧
    readBlock .bc7 0x8000000000368000098000078000058e = some (.bc7M1 0x23 0x800005 0x800007 0x800009 0x2 0x20000000000d) ∧
    readBlock .bc7 0x8000005c00000130000003c000000b1c = some (.bc7M2 0x23 0x20000005 0x20000007 0x20000009 0x1000000b) ∧
    readBlock .bc7 0x80000036e0000026000001e000001638 = some (.bc7M3 0x23 0x8000005 0x8000007 0x8000009 0xb 0x2000000d) ∧
    readBlock .bc7 0x8000000000230000003e0360b82607d0 = some (.bc7M4 0x2 0x1 0x207 0x209 0x20b 0x80d 0x4000000f 0x400000000011) ∧
    readBlock .bc7 0x8000001f00000036002e009801e005a0 = some (.bc7M5 0x2 0x2005 0x2007 0x2009 0x800b 0x4000000d 0x4000000f) ∧
    readBlock .bc7 0x800000000000001b4013003c00b001c0 = some (.bc7M6 0x2003 0x2005 0x2007 0x2009 0x2 0x400000000000000d) ∧
    readBlock .bc7 0x8000003f60002e000260001e00016380 = some (.bc7M7 0x23 0x80005 0x80007 0x80009 0x8000b 0xd 0x2000000f) ∧
    readBlock .bc7 0x80000000000000000000000000000300 = some (.bc7Rsv 0x800000000000000000000000000003) := by decide

/-- FourCC words, their bytes in stream order (`30_encoding.md` R73). -/
theorem test_decode_fourcc :
    read .fourcc [0x44, 0x58, 0x54, 0x31] = some .fourccDxt1 ∧
    read .fourcc [0x44, 0x58, 0x54, 0x32] = some .fourccDxt2 ∧
    read .fourcc [0x44, 0x58, 0x54, 0x33] = some .fourccDxt3 ∧
    read .fourcc [0x44, 0x58, 0x54, 0x34] = some .fourccDxt4 ∧
    read .fourcc [0x44, 0x58, 0x54, 0x35] = some .fourccDxt5 ∧
    read .fourcc [0x41, 0x54, 0x49, 0x31] = some .fourccAti1 ∧
    read .fourcc [0x42, 0x43, 0x34, 0x55] = some .fourccBc4u ∧
    read .fourcc [0x42, 0x43, 0x34, 0x53] = some .fourccBc4s ∧
    read .fourcc [0x41, 0x54, 0x49, 0x32] = some .fourccAti2 ∧
    read .fourcc [0x42, 0x43, 0x35, 0x55] = some .fourccBc5u ∧
    read .fourcc [0x42, 0x43, 0x35, 0x53] = some .fourccBc5s ∧
    read .fourcc [0x44, 0x58, 0x31, 0x30] = some .fourccDx10 ∧
    read .fourcc [0x44, 0x58, 0x54, 0x36] = some (.fourccOther 0x36545844) := by decide

/-- Enumerants (`30_encoding.md` R74). -/
theorem test_decode_xfmt :
    read .xfmt [70, 0, 0, 0] = some .xfmt70 ∧ read .xfmt [71, 0, 0, 0] = some .xfmt71
    ∧ read .xfmt [72, 0, 0, 0] = some .xfmt72 ∧ read .xfmt [73, 0, 0, 0] = some .xfmt73
    ∧ read .xfmt [74, 0, 0, 0] = some .xfmt74 ∧ read .xfmt [75, 0, 0, 0] = some .xfmt75
    ∧ read .xfmt [76, 0, 0, 0] = some .xfmt76 ∧ read .xfmt [77, 0, 0, 0] = some .xfmt77
    ∧ read .xfmt [78, 0, 0, 0] = some .xfmt78 ∧ read .xfmt [79, 0, 0, 0] = some .xfmt79
    ∧ read .xfmt [80, 0, 0, 0] = some .xfmt80 ∧ read .xfmt [81, 0, 0, 0] = some .xfmt81
    ∧ read .xfmt [82, 0, 0, 0] = some .xfmt82 ∧ read .xfmt [83, 0, 0, 0] = some .xfmt83
    ∧ read .xfmt [84, 0, 0, 0] = some .xfmt84 ∧ read .xfmt [94, 0, 0, 0] = some .xfmt94
    ∧ read .xfmt [95, 0, 0, 0] = some .xfmt95 ∧ read .xfmt [96, 0, 0, 0] = some .xfmt96
    ∧ read .xfmt [97, 0, 0, 0] = some .xfmt97 ∧ read .xfmt [98, 0, 0, 0] = some .xfmt98
    ∧ read .xfmt [99, 0, 0, 0] = some .xfmt99 ∧ read .xfmt [70, 0, 0, 1] = some (.xfmtOther 0x01000046) := by decide

/-- Command codes (`30_encoding.md` R87). -/
theorem test_decode_cmd :
    [0, 1, 2, 3, 4, 5, 6, 7].map (fun c => read .cmd [c]) = [some .cmdNop, some .cmdResolve, some .cmdLevel, some .cmdChain,
      some .cmdReset, some .cmdRsv5, some .cmdRsv6, some .cmdRsv7] := by decide

/-- The numbering of the opcode table: the first bytes of the three rows of one byte each, one FourCC, one block. -/
theorem test_decode_table_words :
    decodeTableWord 8 2 = some .cmdLevel ∧ decodeTableWord 8 0x12 = some (.bc6hM7 0 0) ∧
    decodeTableWord 8 0x80 = some (.bc7M7 0 0 0 0 0 0 0) ∧ decodeTableWord 32 0x31545844 = some .fourccDxt1 ∧
    decodeTableWord 32 98 = some .xfmt98 ∧ decodeTableWord 64 0xE4001FF800 = some (.bc1 0xF800 0x1F 0xE4) := by decide

/-! ## One step per instruction, pixels 0, 1, 7, 15 as the spec prints them -/

/-- `95_test_vectors.md` V-C row 3. -/
theorem test_bc1_four_colours : tilePixels .bc1 0xe41234abcd =
    some ([[173, 121, 107, 255], [16, 69, 164, 255], [173, 121, 107, 255], [173, 121, 107, 255]], false) := by decide

/-- `95_test_vectors.md` V-C row 4. -/
theorem test_bc1_three_colours : tilePixels .bc1 0xe4abcd1234 =
    some ([[16, 69, 164, 255], [173, 121, 107, 255], [16, 69, 164, 255], [16, 69, 164, 255]], false) := by decide

/-- `95_test_vectors.md` V-A. -/
theorem test_bc2 : tilePixels .bc2 0xe4e4e4e4abcd1234fedcba9876543210 =
    some ([[16, 69, 164, 0], [173, 121, 107, 17], [120, 103, 126, 119], [120, 103, 126, 255]], false) := by decide

/-- Colour of V-C row 1, alpha of V-G row 2 (`95_test_vectors.md`), rule R141. -/
theorem test_bc3 : tilePixels .bc3 0xe4001ff800fac688fac688c832 =
    some ([[255, 0, 0, 50], [0, 0, 255, 200], [255, 0, 0, 255], [255, 0, 0, 255]], false) := by decide

/-- `95_test_vectors.md` V-G row 3, rule R144. -/
theorem test_bc4 : tilePixels .bc4 0xfac688fac68800ff =
    some ([[255], [0], [36], [36]], false) := by decide

/-- `95_test_vectors.md` V-S row 9, rule R148. -/
theorem test_bc4s : tilePixels .bc4s 0xfac688fac6889c64 =
    some ([[228], [27], [56], [56]], false) := by decide

/-- `95_test_vectors.md` V-S row 10, rule R146. -/
theorem test_bc4s_clamp : tilePixels .bc4s 0xfac688fac6884080 =
    some ([[0], [192], [255], [255]], false) := by decide

/-- `95_test_vectors.md` V-G rows 3 and 2, rule R150. -/
theorem test_bc5 : tilePixels .bc5 0xfac688fac688c832fac688fac68800ff =
    some ([[255, 50, 0], [0, 200, 0], [36, 255, 0], [36, 255, 0]], false) := by decide

/-- `95_test_vectors.md` V-S rows 3 and 9, rule R152. -/
theorem test_bc5s : tilePixels .bc5s 0xfac688fac6889c64fac688fac688817f =
    some ([[255, 228, 0], [0, 27, 0], [36, 56, 0], [36, 56, 0]], false) := by decide

/-- `43_bc6h.md` R179(c). -/
theorem test_bc6h_m1 : tilePixels .bc6h 0xca72eff58d10681e087cbee8c8964b04 =
    some ([[255, 4, 0, 255], [255, 4, 0, 255], [255, 6, 0, 255], [255, 5, 0, 255]], false) := by decide

/-- `95_test_vectors.md` V-6, M2. -/
theorem test_bc6h_m2 : tilePixels .bc6h 0x8cea878cea8ce6d80a7f3e2879590519 =
    some ([[11, 24, 255, 255], [7, 39, 211, 255], [29, 69, 100, 255], [1, 255, 4, 255]], false) := by decide

/-- `95_test_vectors.md` V-6, M3. -/
theorem test_bc6h_m3 : tilePixels .bc6h 0xc675478cea8eb0de6414f68731864d82 =
    some ([[5, 30, 120, 255], [6, 29, 123, 255], [5, 30, 117, 255], [5, 30, 117, 255]], false) := by decide

/-- `95_test_vectors.md` V-6, M4. -/
theorem test_bc6h_m4 : tilePixels .bc6h 0x8cea878cea8c3176640a1e3f31864d86 =
    some ([[6, 27, 120, 255], [6, 29, 123, 255], [6, 30, 121, 255], [5, 32, 125, 255]], false) := by decide

/-- `95_test_vectors.md` V-6, M5. -/
theorem test_bc6h_m5 : tilePixels .bc6h 0x8cea878cea8da117e86d063f31864d8a =
    some ([[6, 28, 117, 255], [6, 29, 123, 255], [6, 27, 110, 255], [5, 29, 140, 255]], false) := by decide

/-- `95_test_vectors.md` V-6, M6. -/
theorem test_bc6h_m6 : tilePixels .bc6h 0x8cea878cea8fe014bf89ec81cd64140e =
    some ([[5, 49, 123, 255], [7, 36, 125, 255], [8, 31, 147, 255], [5, 53, 122, 255]], false) := by decide

/-- `95_test_vectors.md` V-6, M7. -/
theorem test_bc6h_m7 : tilePixels .bc6h 0xc67543c6748e21bee815ff00e7320a12 =
    some ([[2, 62, 75, 255], [96, 33, 234, 255], [13, 43, 154, 255], [1, 110, 42, 255]], false) := by decide

/-- `95_test_vectors.md` V-6, M8. -/
theorem test_bc6h_m8 : tilePixels .bc6h 0x8cea878cea8c413ee81c1e78e7322a16 =
    some ([[12, 12, 75, 255], [6, 255, 234, 255], [8, 64, 154, 255], [7, 251, 208, 255]], false) := by decide

/-- `95_test_vectors.md` V-6, M9. -/
theorem test_bc6h_m9 : tilePixels .bc6h 0xc67543ccea8e413ff00e0e78e6326a1a =
    some ([[12, 22, 43, 255], [7, 37, 127, 255], [25, 10, 9, 255], [21, 12, 13, 255]], false) := by decide

/-- `95_test_vectors.md` V-6, M10. -/
theorem test_bc6h_m10 : tilePixels .bc6h 0xc675478cea8faea26c2a9ce5370b6a5e =
    some ([[16, 12, 54, 255], [4, 15, 84, 255], [94, 16, 43, 255], [72, 8, 34, 255]], false) := by decide

/-- `43_bc6h.md` R179(b). -/
theorem test_bc6h_m11 : tilePixels .bc6h 0xedcba987654321f000c01ff800000003 =
    some ([[0, 0, 0, 255], [255, 255, 0, 255], [51, 1, 0, 255], [255, 197, 0, 255]], false) := by decide

/-- `95_test_vectors.md` V-6, M12. -/
theorem test_bc6h_m12 : tilePixels .bc6h 0xe94fa50b61c72d86ff9fe80731864d87 =
    some ([[3, 51, 123, 255], [1, 119, 123, 255], [2, 88, 123, 255], [0, 255, 122, 255]], false) := by decide

/-- `95_test_vectors.md` V-6, M13. -/
theorem test_bc6h_m13 : tilePixels .bc6h 0xe94fa50b61c72d877f4ff406610c1b0b =
    some ([[5, 32, 123, 255], [4, 42, 122, 255], [4, 38, 123, 255], [3, 55, 122, 255]], false) := by decide

/-- `43_bc6h.md` R179(e). -/
theorem test_bc6h_m14 : tilePixels .bc6h 0xfffffffffffffff00bfe2f4001ff800f =
    some ([[195, 255, 255, 255], [195, 0, 255, 255], [195, 0, 255, 255], [195, 0, 255, 255]], false) := by decide

/-- `43_bc6h.md` R179(d). -/
theorem test_bc6h_delta_wraps : tilePixels .bc6h 0x783e087fe0000a0 =
    some ([[0, 0, 255, 255], [0, 0, 255, 255], [0, 0, 255, 255], [0, 0, 255, 255]], false) := by decide

/-- `43_bc6h.md` R179(f). -/
theorem test_bc6h_reserved_13 : tilePixels .bc6h 0xffffffffffffffffffffffffffffff13 =
    some ([[0, 0, 0, 255], [0, 0, 0, 255], [0, 0, 0, 255], [0, 0, 0, 255]], true) := by decide

/-- `43_bc6h.md` R179(f). -/
theorem test_bc6h_reserved_17 : tilePixels .bc6h 0xffffffffffffffffffffffffffffff17 =
    some ([[0, 0, 0, 255], [0, 0, 0, 255], [0, 0, 0, 255], [0, 0, 0, 255]], true) := by decide

/-- `43_bc6h.md` R179(f). -/
theorem test_bc6h_reserved_1b : tilePixels .bc6h 0xffffffffffffffffffffffffffffff1b =
    some ([[0, 0, 0, 255], [0, 0, 0, 255], [0, 0, 0, 255], [0, 0, 0, 255]], true) := by decide

/-- `43_bc6h.md` R179(f). -/
theorem test_bc6h_reserved_1f : tilePixels .bc6h 0xffffffffffffffffffffffffffffff1f =
    some ([[0, 0, 0, 255], [0, 0, 0, 255], [0, 0, 0, 255], [0, 0, 0, 255]], true) := by decide

/-- `44_bc7.md` R205(f). -/
theorem test_bc7_m0 : tilePixels .bc7 0xf58d11f59a3ea11e1a701e1c411e1e2b =
    some ([[118, 121, 123, 255], [55, 68, 79, 255], [247, 247, 247, 255], [84, 64, 84, 255]], false) := by decide

/-- `44_bc7.md` R205(d). -/
theorem test_bc7_m1 : tilePixels .bc7 0xca72eff58d11f42fdef81f14fc0c8a36 =
    some ([[42, 82, 122, 255], [65, 105, 141, 255], [203, 243, 255, 255], [107, 107, 108, 255]], false) := by decide

/-- `44_bc7.md` R205(h). -/
theorem test_bc7_m2 : tilePixels .bc7 0xb7c8739ffe0f8000ffc1f07c1f003e04 =
    some ([[171, 84, 0, 255], [171, 84, 0, 255], [0, 0, 255, 255], [84, 171, 255, 255]], false) := by decide

/-- `44_bc7.md` R205(i). -/
theorem test_bc7_m3 : tilePixels .bc7 0xb637c9ca40c00404140fe001c001fff8 =
    some ([[255, 1, 3, 255], [88, 88, 87, 255], [0, 254, 4, 255], [88, 88, 87, 255]], false) := by decide

/-- `44_bc7.md` R205(e). -/
theorem test_bc7_m4 : tilePixels .bc7 0x29cbbfd63447c9c9c9cff13a3f0be1b0 =
    some ([[94, 113, 115, 112], [94, 16, 24, 8], [255, 215, 209, 220], [255, 48, 54, 43]], false) := by decide

/-- `44_bc7.md` R205(g). -/
theorem test_bc7_m5 : tilePixels .bc7 0xe79e79e5fffffffc03fe040fe0007fa0 =
    some ([[171, 255, 129, 84], [0, 171, 129, 255], [0, 171, 129, 255], [0, 0, 129, 255]], false) := by decide

/-- `44_bc7.md` R205(b). -/
theorem test_bc7_m6 : tilePixels .bc7 0xfedcba9876543210e45100f0029fc540 =
    some ([[21, 41, 61, 81], [36, 38, 65, 88], [130, 22, 92, 137], [254, 0, 128, 200]], false) := by decide

/-- `44_bc7.md` R205(j). -/
theorem test_bc7_m7 : tilePixels .bc7 0x1b19e4edb6407f83843a2f83c107da80 =
    some ([[170, 84, 131, 170], [88, 91, 93, 96], [4, 255, 134, 4], [251, 0, 130, 251]], false) := by decide

/-- `44_bc7.md` R205(e), second block. -/
theorem test_bc7_m4_plain : tilePixels .bc7 0x29cbbfd63447c9c9c9cff13a3f0be110 =
    some ([[89, 92, 95, 117], [89, 92, 95, 16], [255, 247, 239, 221], [255, 247, 239, 50]], false) := by decide

/-- `44_bc7.md` R192, `95_test_vectors.md` V-7 row 1. -/
theorem test_bc7_reserved : tilePixels .bc7 0xffffffffffffffffffffffffffffff00 =
    some ([[0, 0, 0, 0], [0, 0, 0, 0], [0, 0, 0, 0], [0, 0, 0, 0]], true) := by decide

/-! ## Commands and dispatch codes -/

/-- SRC holding the header the spec's programs start from (`95_test_vectors.md` Part 3): magic, sizes, flags, dimensions, mip
count, FourCC, caps. -/
def header (w h mips fourcc : Nat) : List Host.Cell :=
  [(0, 0x20534444), (4, 124), (8, 0x1007), (12, h), (16, w), (28, mips), (76, 32), (80, 4), (84, fourcc), (108, 0x1000)].foldl
    (fun m x => Memory.writeBytes m x.1 (leBytes 4 x.2)) []

/-- The unit in READY after RESOLVE of a level-0 payload at 128, some blocks there. -/
def readyWith (f : Fmt) (w h mips : Nat) (blocks : List Nat) : State :=
  { State.reset with
    src := Memory.writeBytes [] 128 (blocks.flatMap (leBytes (blockBytes f)))
    srcLen := 128 + blocks.length * blockBytes f
    unit := .ready, fmt := f, srcOff := 128, lw := BitVec.ofNat 32 w, lh := BitVec.ofNat 32 h
    hdr := { width := BitVec.ofNat 32 w, height := BitVec.ofNat 32 h, mips := BitVec.ofNat 32 mips } }

/-- A state stopped by a malformed container. -/
def stopped : State := { State.reset with unit := .faulted, fault := .malformedContainer, faultInfo := 1 }

/-- The host asks for a command. -/
def asks (code : Nat) (s : State) : State := { s with host := [.writeReg 0 code] }

/-- RESOLVE of program P1, from a stopped unit (`95_test_vectors.md` P1, P8). -/
theorem test_resolve : nextIs (step (asks 1 { stopped with src := header 4 4 1 0x31545844, srcLen := 136 })) (fun t =>
    decide (t.unit = .ready ∧ t.fault = .none ∧ t.faultInfo = 0 ∧ t.fmt = .bc1 ∧ t.srcOff = 128 ∧ t.lw = 4 ∧ t.lh = 4 ∧
      t.hdr = { magic := 0x20534444, size := 124, flags := 0x1007, height := 4, width := 4, mips := 1, pfSize := 32
                pfFlags := 4, pfFourcc := 0x31545844, caps := 0x1000 } ∧ t.ext = none ∧ t.phase = .waiting)) = true := by decide

/-- RESOLVE of program P5: the unsupported tag, after the header registers are loaded (`95_test_vectors.md` P5, V-R). -/
theorem test_resolve_unsupported :
    nextIs (exec .cmdResolve { State.reset with src := header 4 4 1 0x32545844, srcLen := 144 }) (fun t =>
    decide (t.unit = .faulted ∧ t.fault = .unsupportedFormat ∧ t.faultInfo = 0x32545844 ∧ t.fmt = .none ∧ t.srcOff = 0 ∧
      t.lw = 0 ∧ t.hdr.width = 4)) = true := by decide

/-- LEVEL of program P1's block (`95_test_vectors.md` P1). -/
theorem test_level : nextIs (step (asks 2 (readyWith .bc1 4 4 1 [0]))) (fun t =>
    decide (t.outq = [⟨0, 4, 4, .bc1, (List.replicate 16 [0, 0, 0, 255]).flatten⟩] ∧ t.srcOff = 136 ∧ t.blkErr = false ∧
      t.unit = .ready ∧ t.pad = none)) = true := by decide

/-- LEVEL of a tile trimmed to a quarter (`95_test_vectors.md` P9). -/
theorem test_level_trims : nextIs (exec .cmdLevel (readyWith .bc5s 2 2 1 [0x1f58d11f58d14080fac688fac688817f])) (fun t =>
    decide (t.outq.map LevelRecord.bytes = [[0xff, 0xc0, 0, 0, 0x26, 0, 0x92, 0x99, 0, 0x6d, 0, 0]] ∧ t.srcOff = 144)) =
    true := by decide

/-- CHAIN over three levels, trimmed on both axes (`95_test_vectors.md` P3). -/
theorem test_chain : nextIs (step (asks 3 (readyWith .bc4 6 5 3 [0xfac688fac68832c8, 0xfac688fac688c832, 0xab_c398ab_c39800ff,
      0xfac688fac6880a0a, 0xfac688fac6881e64, 0xc84d]))) (fun t =>
    decide (t.outq.map LevelRecord.bytes =
        [[0xc8, 0x32, 0xb2, 0x9d, 0x32, 0xc8, 0x87, 0x72, 0x5c, 0x47, 0x8c, 0xaa, 0xc8, 0x32, 0xb2, 0x9d, 0x32, 0xc8, 0x87,
          0x72, 0x5c, 0x47, 0x8c, 0xaa, 0xff, 0xb6, 0x48, 0x00, 0x0a, 0x0a], [0x64, 0x1e, 0x5a, 0x46, 0x3c, 0x32], [0x4d]] ∧
      t.srcOff = 176 ∧ t.lw = 1 ∧ t.lh = 1 ∧ t.level = 2 ∧ t.blkErr = false ∧ t.unit = .ready)) = true := by decide

/-- CHAIN whose last level is missing (`95_test_vectors.md` V-M row 3; P6 (a), which prints FMT = 1 after the fault). -/
theorem test_chain_truncated : nextIs (exec .cmdChain (readyWith .bc4 2 1 4 [0x309, 0x309, 0x309])) (fun t =>
    decide (t.unit = .faulted ∧ t.fault = .truncatedStream ∧ t.faultInfo = 3 ∧ t.srcOff = 152 ∧ t.level = 3 ∧ t.outq = [] ∧
      t.pad = none)) = true ∧
    nextIs (exec .cmdChain (readyWith .bc1 8 8 2 [0xFFFF, 0xFFFF, 0xFFFF, 0xFFFF])) (fun t =>
    decide (t.unit = .faulted ∧ t.fault = .truncatedStream ∧ t.faultInfo = 1 ∧ fmtCode t.fmt = 1 ∧ t.srcOff = 160 ∧ t.lw = 4 ∧
      t.lh = 4 ∧ t.level = 1 ∧ t.blkErr = false ∧ t.outq = [])) = true := by
  decide +kernel

/-- RESET gives the reset state with SRC_LEN kept; NOP and the reserved codes change nothing but CMD (`95_test_vectors.md` P5,
P8; `46_resolver.md` R254). -/
theorem test_reset_nop_reserved :
    nextIs (step (asks 4 { stopped with srcLen := 144, lw := 7 })) (fun t => decide (t = { State.reset with srcLen := 144 })) =
      true ∧
    ∀ c ∈ [0, 5, 6, 7], nextIs (step (asks c stopped)) (fun t => decide (t = { stopped with cmd := BitVec.ofNat 3 c })) =
      true := by decide

/-- The FourCC codes run from where a step fetches them (`95_test_vectors.md` V-R). -/
theorem test_fourcc_codes :
    [0x31545844, 0x33545844, 0x35545844, 0x31495441, 0x55344342, 0x53344342, 0x32495441, 0x55354342, 0x53354342].map (fun w =>
      nextIs (step (State.reset.withFetchWord 32 w)) fun t => decide (t.unit = .ready ∧ t.srcOff = 128)) =
    List.replicate 9 true ∧
    ([0x31545844, 0x33545844, 0x35545844, 0x31495441, 0x55344342, 0x53344342, 0x32495441, 0x55354342, 0x53354342].map fun w =>
      match step (State.reset.withFetchWord 32 w) with
      | .next t => t.fmt
      | .fault _ => .none
      | .refused _ => .none) = [.bc1, .bc2, .bc3, .bc4, .bc4, .bc4s, .bc5, .bc5, .bc5s] ∧
    [0x32545844, 0x34545844, 0x31747864].map (fun w => nextIs (step (State.reset.withFetchWord 32 w)) fun t =>
      decide (t.unit = .faulted ∧ t.fault = .unsupportedFormat ∧ t.faultInfo = BitVec.ofNat 32 w)) = [true, true, true] ∧
    nextIs (step { State.reset.withFetchWord 32 0x30315844 with srcLen := 147 }) (fun t =>
      decide (t.fault = .malformedContainer ∧ t.faultInfo = 5)) = true := by decide

/-- The enumerants (`95_test_vectors.md` V-R). -/
theorem test_enumerants :
    ([70, 71, 72, 73, 74, 75, 76, 77, 78, 79, 80, 81, 82, 83, 84, 94, 95, 97, 98, 99].map fun w =>
      match step (State.reset.withFetchWord 32 w) with
      | .next t => t.fmt
      | .fault _ => .none
      | .refused _ => .none) =
      [.bc1, .bc1, .bc1, .bc2, .bc2, .bc2, .bc3, .bc3, .bc3, .bc4, .bc4, .bc4s, .bc5, .bc5, .bc5s, .bc6h, .bc6h, .bc7, .bc7,
        .bc7] ∧
    [69, 85, 93, 96, 100].map (fun w => nextIs (step (State.reset.withFetchWord 32 w)) fun t =>
      decide (t.fault = .unsupportedFormat ∧ t.faultInfo = BitVec.ofNat 32 w ∧ t.fmt = .none)) =
      [true, true, true, true, true] := by decide

/-- The sentinel with 148 bytes leads to the enumerant (`95_test_vectors.md` V-R row 21). -/
theorem test_sentinel : nextIs (exec .cmdResolve { State.reset with
      src := Memory.writeBytes (Memory.writeBytes (header 16 8 1 0x30315844) 128 [71]) 132 [3], srcLen := 148 }) (fun t =>
    decide (t.unit = .ready ∧ t.fmt = .bc1 ∧ t.srcOff = 148 ∧ t.ext = some { format := 71, dim := 3 })) = true := by decide

/-- Host writes: LW in READY only, SRC_LEN always, SRC bytes (`46_resolver.md` R255). -/
theorem test_host_writes :
    nextIs (step { State.reset with host := [.writeReg 7 4] }) (fun t => decide (t.lw = 0 ∧ t.host = [])) = true ∧
    nextIs (step { State.reset with host := [.writeReg 5 9] }) (fun t => decide (t.srcLen = 9)) = true ∧
    nextIs (step { State.reset with host := [.writeSrc 3 [1, 0, 2]] }) (fun t => decide (t.src = [(3, 1), (5, 2)])) = true ∧
    nextIs (step { readyWith .bc1 4 4 1 [] with host := [.writeReg 7 8] }) (fun t => decide (t.lw = 8)) = true := by decide

/-! ## The hypotheses of the statements are met -/

/-- O1, O2: a well-formed instruction of each kind of stream, a default row among them; words of full length, the largest
command code. -/
theorem witness_encoding :
    wellFormed (.bc1 0xFFFF 0 0xFFFFFFFF) = true ∧ wellFormed (.fourccOther 0) = true ∧ wellFormed (.xfmtOther 100) = true ∧
    wellFormed .cmdRsv7 = true ∧ Stream.block .bc7 ≠ .block .none ∧
    (List.replicate 16 (255 : Byte)).length = Stream.bytes (.block .bc7) ∧
    ([7] : List Byte).length = Stream.bytes .cmd ∧ leNat [7] < 8 := by decide

/-- O4: blocks that decode, and rows that take a byte. -/
theorem witness_mode_rows :
    decode (.block .bc6h) (List.replicate 16 0) = .ok (.bc6hM1 0 0, []) ∧
    decode (.block .bc7) (List.replicate 16 0) = .ok (.bc7Rsv 0, []) ∧
    row6 (.bc6hM3 0 0) = some (0x1F, 0x02) ∧ (0xE2 : Byte) &&& 0x1F = 0x02 ∧
    row7 (.bc7M7 0 0 0 0 0 0 0) = some (0xFF, 0x80) ∧ (0x80 : Byte) &&& 0xFF = 0x80 := by decide

/-- O5, O6: a full block, its last position; reads of no bit at the end, past the end, up to the end. -/
theorem witness_cursor :
    (List.replicate 16 (255 : Byte)).length = 16 ∧ 127 < 128 ∧
    Cursor.readBits 0 ⟨0, 128⟩ = some (0, ⟨0, 128⟩) ∧ Cursor.readBits 1 ⟨0, 128⟩ = none ∧ Cursor.readBits 8 ⟨0, 121⟩ = none ∧
    Cursor.readBits 8 ⟨BitVec.allOnes 128, 120⟩ = some (255, ⟨BitVec.allOnes 128, 128⟩) := by decide

/-- O8, O9: references at the edges of each clause. -/
theorem witness_references :
    (0 : Byte).toNat < (1 : Byte).toNat ∧ (0 : Byte).toNat + 7 ≤ (7 : Byte).toNat ∧ (9 : Byte).toNat ≤ (9 : Byte).toNat ∧
    (252 : Byte).toNat + 3 ≤ (255 : Byte).toNat ∧ -(127 * ((7 : Nat) : Int)) ≤ -889 ∧ (889 : Int) ≤ 127 * ((7 : Nat) : Int) := by
  decide

/-- O10-O16, O18, O19, O24-O26, O31: a tile that fits exactly, for every codec. -/
theorem witness_tileFits (f : Fmt) : TileFits f (placeBlock f 0 State.reset) :=
  ⟨Nat.le_refl 4, _, rfl, by cases f <;> decide⟩

/-- O18, O21: every BC6H mode has its descriptor, and its block runs. -/
theorem witness_bc6h_modes :
    [(Instr.bc6hM1 0 0), .bc6hM2 0 0, .bc6hM3 0 0, .bc6hM4 0 0, .bc6hM5 0 0, .bc6hM6 0 0, .bc6hM7 0 0, .bc6hM8 0 0,
      .bc6hM9 0 0, .bc6hM10 0 0, .bc6hM11 0 0, .bc6hM12 0 0, .bc6hM13 0 0, .bc6hM14 0 0].map mode6Of = modes6.map some ∧
    nextIs (exec (.bc6hM14 0 0) (placeBlock .bc6h 0 State.reset)) (fun _ => true) = true ∧
    mode6M14 ∈ modes6 ∧ 2 ^ mode6M14.bp - 1 < 2 ^ mode6M14.bp := by decide

/-- O20: a cursor from which the last index just fits, and one from which it does not. -/
theorem witness_bc6h_overrun :
    65 + offsetOf (width6 mode6M11 0) 16 = 128 ∧ 128 < 66 + offsetOf (width6 mode6M11 0) 16 ∧
    66 + offsetOf (width6 mode6M11 0) 15 ≤ 128 := by decide

/-- O24, O27: every BC7 mode has its descriptor and operands; a block of mode 3 runs. -/
theorem witness_bc7_modes :
    [(Instr.bc7M0 0 0 0 0 0 0), .bc7M1 0 0 0 0 0 0, .bc7M2 0 0 0 0 0, .bc7M3 0 0 0 0 0 0, .bc7M4 0 0 0 0 0 0 0 0,
      .bc7M5 0 0 0 0 0 0 0, .bc7M6 0 0 0 0 0 0, .bc7M7 0 0 0 0 0 0 0].map (fun i => (operands7 i).map Prod.fst) =
      modes7.map some ∧ mode7M3.m ≤ 3 ∧
    nextIs (exec (.bc7M3 0 0 0 0 0 0) (placeBlock .bc7 0 State.reset)) (fun _ => true) = true := by decide

/-- O26: a descriptor that needs 144 bits, and one that needs exactly 128. -/
theorem witness_bc7_overrun :
    (let d := { mode7M6 with ib := 5 }
     d.m < 128 ∧ 128 < (d.m + 1) + d.pbw + d.rb + d.isb + 2 * d.ns * (d.prec.r + d.prec.g + d.prec.b + d.prec.a) + d.np +
       (primaryWidths d 0).sum + (secondaryWidths d).sum) ∧
    (let d := mode7M6
     (d.m + 1) + d.pbw + d.rb + d.isb + 2 * d.ns * (d.prec.r + d.prec.g + d.prec.b + d.prec.a) + d.np +
       (primaryWidths d 0).sum + (secondaryWidths d).sum = 128) := by decide

/-- O22, O23, O28, O29: values at the ends of the ranges. -/
theorem witness_ranges :
    0x3C00 ≤ 0x3C00 ∧ 0x7BFF ≤ 0x7BFF ∧ mode7M0 ∈ modes7 ∧ 15 < 2 ^ mode7M0.pbw ∧ 15 < 2 ^ 4 ∧ 255 < 2 ^ 8 ∧ 64 ≤ 64 := by
  decide

/-- O31-O33: a block of a stream; a tile outside PAD stops, one inside completes. -/
theorem witness_blocks :
    (Instr.bc7Rsv 0).stream = .block .bc7 ∧ exec (.bc7Rsv 0) State.reset = .fault .padOutOfRange ∧
    exec (.bc1 0 0 0) { placeBlock .bc1 0 State.reset with pad := some (List.replicate 63 0) } = .fault .padOutOfRange ∧
    nextIs (exec (.bc7Rsv 0) (placeBlock .bc7 0 State.reset)) (fun _ => true) = true := ⟨rfl, rfl, rfl, by decide⟩

/-- O35, O38, O40: the lengths where the extended header is there or not; two pasts over one SRC; the ignored commands. -/
theorem witness_resolver :
    148 ≤ ({ State.reset with srcLen := 148 } : State).srcLen ∧ ({ State.reset with srcLen := 147 } : State).srcLen < 148 ∧
    stopped.src = State.reset.src ∧ stopped.srcLen = State.reset.srcLen ∧ stopped ≠ State.reset ∧
    nextIs (exec .cmdResolve stopped) (fun _ => true) = true ∧ stopped.unit ≠ .ready ∧ State.reset.lw = 0 := by decide

/-- O42: one byte short of a level. O43, O46: a level that ends with SRC. -/
theorem witness_levels :
    (let s := { readyWith .bc1 5 4 1 [0, 0] with srcLen := 143 }
     s.unit = .ready ∧ s.fmt ≠ .none ∧ s.lw ≠ 0 ∧ s.lh ≠ 0 ∧
       s.srcLen < s.srcOff + blockCount s.lw.toNat s.lh.toNat * blockBytes s.fmt) ∧
    (let s := readyWith .bc1 5 4 1 [0, 0]
     s.unit = .ready ∧ s.fmt ≠ .none ∧ s.lw ≠ 0 ∧ s.lh ≠ 0 ∧
       s.srcOff + blockCount s.lw.toNat s.lh.toNat * blockBytes s.fmt = s.srcLen) := by decide

/-- O44, O46: a chain that ends with SRC, and one of no counted level. O45: a chain cut at level 1, and one cut at level 0. -/
theorem witness_chains :
    (let s := readyWith .bc4 8 8 4 [0, 0, 0, 0, 0, 0, 0]
     s.unit = .ready ∧ s.fmt ≠ .none ∧ chainOffset s (chainLevels s) = s.srcLen) ∧
    (let s := readyWith .bc4 4 4 0 [0]
     s.unit = .ready ∧ s.fmt ≠ .none ∧ chainOffset s (chainLevels s) = s.srcLen) ∧
    (let s := readyWith .bc1 8 8 2 [0, 0, 0, 0]
     s.unit = .ready ∧ s.fmt ≠ .none ∧ 1 < chainLevels s ∧ chainOffset s 1 ≤ s.srcLen ∧ s.srcLen < chainOffset s 2) ∧
    (let s := readyWith .bc1 8 8 2 [0, 0, 0]
     s.unit = .ready ∧ s.fmt ≠ .none ∧ 0 < chainLevels s ∧ s.srcLen < chainOffset s 1) := by decide

/-- O47: each place a step fetches from. -/
theorem witness_fetch :
    ((asks 2 stopped).phase = .waiting ∧ (asks 2 stopped).host = .writeReg 0 2 :: [] ∧
      decode .cmd [BitVec.ofNat 8 (2 % 8)] = .ok (.cmdLevel, [])) ∧
    (let s := State.reset.withFetchWord 32 0x31545844
     s.phase = .fourcc ∧ decode .fourcc (leBytes 4 s.hdr.pfFourcc.toNat) = .ok (.fourccDxt1, [])) ∧
    (let s := State.reset.withFetchWord 32 98
     s.phase = .xfmt ∧ s.ext = some { format := 98 } ∧ decode .xfmt (leBytes 4 98) = .ok (.xfmt98, [])) ∧
    (let s := placeBlock .bc1 0xE4 State.reset
     s.phase = .level ∧ s.srcOff + blockBytes s.fmt ≤ s.srcLen ∧
       decode (.block s.fmt) (Memory.readBytes s.src s.srcOff (blockBytes s.fmt)) = .ok (.bc1 0xE4 0 0, [])) ∧
    ({ placeBlock .bc1 0xE4 State.reset with phase := .chain } : State).phase = .chain := by decide

/-- O50, O51, O55, O59: a stopped unit meets the invariant, and its step, LEVEL, goes on. -/
theorem witness_inv_stopped : Inv (asks 2 stopped) ∧ (asks 2 stopped).unit = .faulted ∧
    nextIs (step (asks 2 stopped)) (fun _ => true) = true ∧ decodeCmd (BitVec.ofNat 3 2) ≠ .cmdResolve ∧
    decodeCmd (BitVec.ofNat 3 2) ≠ .cmdReset :=
  ⟨{ src := by decide, ready := by decide, idle := by decide, faulted := by decide, noOutput := fun _ => rfl
     fault := ⟨by decide, by decide, rfl⟩, records := List.forall_mem_nil _, phase := rfl }, by decide⟩

/-- O50, O51, O59: so does a unit in the middle of a level. -/
theorem witness_inv_level : Inv (placeBlock .bc1 0xE4 State.reset) ∧
    nextIs (step (placeBlock .bc1 0xE4 State.reset)) (fun _ => true) = true :=
  ⟨{ src := by decide, ready := by decide, idle := by decide, faulted := by decide, noOutput := fun _ => rfl
     fault := rfl, records := List.forall_mem_nil _
     phase := { ready := rfl, grid := by decide, inside := by decide, row := rfl, off := rfl, pad := ⟨_, rfl, by decide⟩
                src := by decide } }, by decide⟩

/-- O52: a scratch in use. -/
theorem witness_scratch : ScratchOk { State.reset.scratch with bitpos := 128 } ∧
    nextIs (step { State.reset with scratch := { State.reset.scratch with bitpos := 128 } }) (fun _ => true) = true :=
  ⟨⟨by decide, rfl, by decide, rfl, rfl, by decide, by decide, rfl, rfl, rfl, rfl⟩, by decide⟩

/-- O53, O54: an instruction that is neither RESOLVE nor RESET answers a next state. -/
theorem witness_frames : nextIs (exec .cmdChain (readyWith .bc4 4 4 0 [0])) (fun _ => true) = true ∧
    (Instr.cmdChain).stream ≠ .fourcc ∧ (Instr.cmdChain).stream ≠ .xfmt := by decide

/-- O56: two states with the same visible part and different scratch. -/
theorem witness_hidden : visible { stopped with scratch := { stopped.scratch with bitpos := 7 } } = visible stopped ∧
    (Instr.cmdResolve).stream = .cmd :=
  ⟨rfl, rfl⟩

/-- O57, O58: a pending write of each kind, in and outside READY, the registers at the ends of each range. -/
theorem witness_host :
    (∀ no ∈ [4, 5, 6, 7, 8, 9, 10], ({ readyWith .bc1 4 4 1 [] with host := [.writeReg no 9] } : State).phase = .waiting ∧
      (readyWith .bc1 4 4 1 []).unit = .ready ∧ no ≠ 0) ∧
    ({ stopped with host := [.writeReg 7 9] } : State).unit ≠ .ready ∧ 4 < 5 ∧ 9 < 10 ∧ 2 ^ 32 - 1 < 2 ^ 32 ∧
    Memory.wf (header 4 4 1 0x31545844) ∧ ({ stopped with host := [.writeSrc 0 [1, 2]] } : State).phase = .waiting := by decide

end Sys2Proof.Tests
end

section
/-! ## What an instruction inside a command does

A block stores a tile that its operands alone determine, from a state in which only the scratch is new; a dispatch code selects
a codec, raises `UNSUPPORTED_FORMAT` with itself as the code, or parses the extended header. -/

namespace Sys2Proof.Proofs

open Sys2Proof.Machine Sys2Proof.Safety Sys2Proof.Claims

/-! ### Tiles -/

/-- A tile of sixteen pixels of at most four channels. -/
def TileOk (u : Tile) : Prop := u.px.length = 16 ∧ ∀ p ∈ u.px, p.length ≤ 4

/-- Pixels computed one by one make a tile. -/
theorem tileOk_map {g : Nat → Pixel} (hg : ∀ i, (g i).length ≤ 4) (e : Bool) : TileOk ⟨pixelNos.map g, e⟩ := by
  refine ⟨by simp [pixelNos], fun p hp => ?_⟩
  obtain ⟨i, -, rfl⟩ := List.mem_map.1 hp
  exact hg i

/-- A block error makes a tile of the pixels produced before it. -/
theorem tileOk_blockError (err : Rgba Byte) {done : List Pixel} (hl : done.length ≤ 16) (hd : ∀ p ∈ done, p.length ≤ 4) :
    TileOk (blockError err done) := by
  refine ⟨blockError_px_length err hl, fun p hp => ?_⟩
  rcases List.mem_append.1 hp with hp | hp
  · exact hd p hp
  · rw [List.eq_of_mem_replicate hp]
    simp [Rgba.bytes]

/-! ### The shape of the scratch -/

/-- A bank overwritten by at most as many values keeps its size. -/
theorem overwrite_length {α : Type} {bank vs : List α} (h : vs.length ≤ bank.length) :
    (overwrite bank vs).length = bank.length := by
  simp [overwrite]
  omega

/-- A signed reference is in the range of E0 and E1: -128 is replaced by -127 (`42_fixed_gradient.md` R146). -/
theorem signedRef_bounds (e : Byte) : -127 ≤ signedRef e ∧ signedRef e ≤ 255 := by
  have h₁ : (-128 : Int) ≤ e.toInt := BitVec.le_toInt e
  have h₂ : e.toInt < 128 := BitVec.toInt_lt
  unfold signedRef
  split <;> omega

/-- So is an unsigned one (`42_fixed_gradient.md` R134). -/
theorem toNat_bounds (e : Byte) : -127 ≤ (e.toNat : Int) ∧ (e.toNat : Int) ≤ 255 := by
  have := e.isLt
  omega

@[simp] theorem fourColour_length (c0 c1 : BitVec 16) : (fourColour c0 c1).length = 4 := rfl

@[simp] theorem bc1Palette_length (c0 c1 : BitVec 16) : (bc1Palette c0 c1).length = 4 := by
  unfold bc1Palette
  split <;> rfl

@[simp] theorem grad8u_length (e0 e1 : Byte) : (grad8u e0 e1).length = 8 := by
  unfold grad8u
  dsimp only
  split <;> rfl

@[simp] theorem grad8s_length (a b : Int) : (grad8s a b).length = 8 := by
  unfold grad8s
  split <;> rfl

/-- The colour half keeps the shape when its palette has four entries. -/
theorem scratchOk_setColourHalf {s : State} (h : ScratchOk s.scratch) (c0 c1 : BitVec 16) (sel : BitVec 32)
    {palc : List (Rgba Byte)} (hp : palc.length = 4) : ScratchOk (setColourHalf c0 c1 sel palc s).scratch :=
  { h with palc := hp }

/-- A gradient half keeps the shape when its references are in range and its palette has eight entries. -/
theorem scratchOk_setGradHalf {s : State} (h : ScratchOk s.scratch) {e0 e1 : Int} (h₀ : -127 ≤ e0 ∧ e0 ≤ 255)
    (h₁ : -127 ≤ e1 ∧ e1 ≤ 255) (sel : BitVec 48) {palg : List Byte} (hp : palg.length = 8) :
    ScratchOk (setGradHalf e0 e1 sel palg s).scratch :=
  { h with palg := hp, refs := ⟨h₀.1, h₀.2, h₁⟩ }

/-- The alpha grid keeps the shape. -/
theorem scratchOk_setAlphaGrid {s : State} (h : ScratchOk s.scratch) (alpha : BitVec 64) :
    ScratchOk (setAlphaGrid alpha s).scratch := { h with }

/-- The mode of a BC6H block keeps the shape. -/
theorem scratchOk_setMode6 {s : State} (h : ScratchOk s.scratch) (sel : Nat) {bits : Nat} (hb : bits ≤ 128) :
    ScratchOk (setMode6 sel bits s).scratch := { h with bitpos := hb }

/-- The fields of a BC6H block keep the shape. -/
theorem scratchOk_setScratch6 {s : State} (h : ScratchOk s.scratch) (shape : Nat) (ep : Endpoints Nat) (idx : Nat)
    {pos : Nat} (hp : pos ≤ 128) : ScratchOk (setScratch6 shape ep idx pos s).scratch := { h with bitpos := hp }

/-- The mode of a BC7 block keeps the shape. -/
theorem scratchOk_setMode7 {s : State} (h : ScratchOk s.scratch) {m bits : Nat} (hm : m ≤ 8) (hb : bits ≤ 128) :
    ScratchOk (setMode7 m bits s).scratch := { h with bitpos := hb, m7 := hm }

/-- The fields of a BC7 block keep the shape when none has more values than its bank. -/
theorem scratchOk_setScratch7 {s : State} (h : ScratchOk s.scratch) {d : Mode7} {f : Fields7} (hpos : f.pos ≤ 128)
    (hne : d.ne ≤ 6) (hpb : f.pb.length ≤ 6) (hi1 : f.i1.length ≤ 16) (hi2 : f.i2.length ≤ 16) :
    ScratchOk (setScratch7 d f s).scratch :=
  { h with
    bitpos := hpos
    ep7 := (overwrite_length (by simpa [h.ep7] using hne)).trans h.ep7
    pb := (overwrite_length (by simpa [h.pb] using hpb)).trans h.pb
    i1 := (overwrite_length (by simpa [h.i1] using hi1)).trans h.i1
    i2 := (overwrite_length (by simpa [h.i2] using hi2)).trans h.i2 }

/-! ### The cursor stays inside the block -/

/-- A read keeps the cursor inside the block (`40_bit_cursor.md` R101, R103). -/
theorem readBits_pos_le {n v : Nat} {c c' : Cursor} (h : c.readBits n = some (v, c')) (hc : c.pos ≤ 128) :
    c'.pos ≤ 128 := by
  obtain ⟨-, rfl, hn⟩ := Cursor.readBits_cases h
  dsimp only
  omega

/-- Consecutive reads keep the cursor inside the block. -/
theorem readWidths_pos_le {ns vs : List Nat} {c c' : Cursor} (h : c.readWidths ns = some (vs, c')) (hc : c.pos ≤ 128) :
    c'.pos ≤ 128 := by
  induction ns generalizing c vs with
  | nil =>
    simp only [Cursor.readWidths, Option.some.injEq, Prod.mk.injEq] at h
    exact h.2 ▸ hc
  | cons n ns ih =>
    simp only [Cursor.readWidths] at h
    split at h
    · cases h
    · rename_i h₁
      split at h
      · cases h
      · rename_i h₂
        simp only [Option.some.injEq, Prod.mk.injEq] at h
        obtain ⟨-, rfl⟩ := h
        exact ih h₂ (readBits_pos_le h₁ hc)

/-- The header scatter keeps the cursor inside the block (`43_bc6h.md` R164). -/
theorem scatter_pos_le {layout : List (HdrField × Nat)} {n : Nat} {c c' : Cursor} {h h' : Fields6}
    (hs : scatter layout n c h = some (h', c')) (hc : c.pos ≤ 128) : c'.pos ≤ 128 := by
  induction n generalizing c h with
  | zero =>
    simp only [scatter, Option.some.injEq, Prod.mk.injEq] at hs
    exact hs.2 ▸ hc
  | succ n ih =>
    simp only [scatter] at hs
    split at hs
    · cases hs
    · rename_i hr
      exact ih hs (readBits_pos_le hr hc)

/-- The pixel loop of BC6H keeps the cursor inside the block. -/
theorem pixels6_pos_le (d : Mode6) (shape : Nat) (ep : Endpoints Nat) (n idx : Nat) (done : List Pixel) {c : Cursor}
    (hc : c.pos ≤ 128) : (pixels6 d shape ep n idx done c).pos ≤ 128 := by
  induction n generalizing idx done c with
  | zero => exact hc
  | succ n ih =>
    simp only [pixels6]
    split
    · exact hc
    · rename_i hr
      split
      · exact readBits_pos_le hr hc
      · exact ih _ _ (readBits_pos_le hr hc)

/-- The pixel loop of BC6H makes a tile (`43_bc6h.md` R161). -/
theorem pixels6_tileOk (d : Mode6) (shape : Nat) (ep : Endpoints Nat) (n idx : Nat) {done : List Pixel} (c : Cursor)
    (hn : done.length + n = 16) (hd : ∀ p ∈ done, p.length ≤ 4) : TileOk (pixels6 d shape ep n idx done c).tile := by
  induction n generalizing idx done c with
  | zero => exact ⟨hn, hd⟩
  | succ n ih =>
    have herr := tileOk_blockError config.bc6hErr (done := done) (by omega) hd
    simp only [pixels6]
    split
    · exact herr
    · split
      · exact herr
      · refine ih _ _ (by simp; omega) fun p hp => ?_
        rcases List.mem_append.1 hp with hp | hp
        · exact hd p hp
        · rw [List.mem_singleton.1 hp]
          simp [pixel6]

/-- The initial index of the pixel loop decides no pixel: it is the value of IDX alone. -/
theorem pixels6_tile_idx (d : Mode6) (shape : Nat) (ep : Endpoints Nat) (n idx idx' : Nat) (done : List Pixel) (c : Cursor) :
    (pixels6 d shape ep n idx done c).tile = (pixels6 d shape ep n idx' done c).tile := by
  cases n with
  | zero => rfl
  | succ n =>
    simp only [pixels6]
    split
    · rfl
    · rfl

/-- The fields of a BC7 block: the cursor inside the block, the P-bits and the indices as many as the mode has
(`44_bc7.md` R190, R197). -/
theorem readFields7_shape {d : Mode7} {c : Cursor} {f : Fields7} (h : readFields7 d c = some f) (hc : c.pos ≤ 128) :
    f.pos ≤ 128 ∧ f.pb.length = d.np ∧ f.i1.length = 16 ∧ f.i2.length ≤ 16 := by
  simp only [readFields7, Option.bind_eq_bind, Option.bind_eq_some_iff, Option.some.injEq, Prod.exists] at h
  obtain ⟨shape, c₁, h₁, rot, c₂, h₂, isel, c₃, h₃, r, c₄, h₄, g, c₅, h₅, b, c₆, h₆, a, c₇, h₇, pb, c₈, h₈, i1, c₉, h₉,
    i2, c₁₀, h₁₀, rfl⟩ := h
  have hbits := readBits_pos_le h₃ (readBits_pos_le h₂ (readBits_pos_le h₁ hc))
  have hchans := readWidths_pos_le h₇ (readWidths_pos_le h₆ (readWidths_pos_le h₅ (readWidths_pos_le h₄ hbits)))
  refine ⟨readWidths_pos_le h₁₀ (readWidths_pos_le h₉ (readWidths_pos_le h₈ hchans)), ?_, ?_, ?_⟩
  · simpa using Cursor.readWidths_length h₈
  · simpa [primaryWidths, pixelNos] using Cursor.readWidths_length h₉
  · rw [Cursor.readWidths_length h₁₀, secondaryWidths]
    split <;> simp [pixelNos]

/-! ### Blocks -/

/-- A meaning is a block of codec `f`: it stores one tile, the same from every state, once the scratch is written. -/
def RunsAsBlock (f : Fmt) (m : State → Result) : Prop :=
  ∃ u, TileOk u ∧ ∀ s : State, ∃ x : Scratch, (ScratchOk s.scratch → ScratchOk x) ∧
    m s = finishBlock f u { s with scratch := x }

/-- A mode of BC6H is a block (`43_bc6h.md` R161). -/
theorem runBc6h_runsAsBlock {d : Mode6} (hd : d.modeBits ≤ 128) (b : BitVec 128) : RunsAsBlock .bc6h (runBc6h d b) := by
  have hmode (s : State) (h : ScratchOk s.scratch) := scratchOk_setMode6 h d.sel hd
  unfold runBc6h
  cases hs : scatter d.fieldBits (d.hl - d.modeBits) ⟨b, d.modeBits⟩ Fields6.zero with
  | none => exact ⟨_, tileOk_blockError _ (by simp) (by simp), fun s => ⟨_, hmode s, rfl⟩⟩
  | some r =>
    obtain ⟨h, c⟩ := r
    refine ⟨_, pixels6_tileOk d h.shape (absolute d h.ep) 16 0 (done := []) c rfl (by simp), fun s => ?_⟩
    have hpos := pixels6_pos_le d h.shape (absolute d h.ep) 16 s.scratch.bc6h.idx.toNat [] (scatter_pos_le hs hd)
    refine ⟨_, fun hx => scratchOk_setScratch6 (hmode s hx) h.shape (absolute d h.ep)
      (pixels6 d h.shape (absolute d h.ep) 16 s.scratch.bc6h.idx.toNat [] c).idx hpos, ?_⟩
    rw [pixels6_tile_idx d h.shape (absolute d h.ep) 16 0 s.scratch.bc6h.idx.toNat]
    rfl

/-- A reserved selector of BC6H is a block (`43_bc6h.md` R162). -/
theorem runReserved6_runsAsBlock (sel : Nat) : RunsAsBlock .bc6h (runReserved6 sel) :=
  ⟨_, tileOk_blockError _ (by simp) (by simp), fun _ => ⟨_, fun h => scratchOk_setMode6 h sel (by decide), rfl⟩⟩

/-- The modes of BC7 fit the registers of `10_state.md` R37. -/
theorem modes7_fit : ∀ d ∈ modes7, d.m ≤ 7 ∧ d.ne ≤ 6 ∧ d.np ≤ 6 := by decide

/-- A mode of BC7 is a block (`44_bc7.md` R190). -/
theorem runBc7_runsAsBlock {d : Mode7} (hd : d ∈ modes7) (b : BitVec 128) : RunsAsBlock .bc7 (runBc7 d b) := by
  obtain ⟨hm, hne, hnp⟩ := modes7_fit d hd
  have hmode (s : State) (h : ScratchOk s.scratch) :=
    scratchOk_setMode7 h (m := d.m) (bits := d.m + 1) (by omega) (by omega)
  unfold runBc7
  cases hf : readFields7 d ⟨b, d.m + 1⟩ with
  | none => exact ⟨_, tileOk_blockError _ (by simp) (by simp), fun s => ⟨_, hmode s, rfl⟩⟩
  | some f =>
    obtain ⟨hpos, hpb, hi1, hi2⟩ := readFields7_shape hf (by dsimp only; omega)
    exact ⟨_, tileOk_map (fun _ => by simp [Rgba.bytes]) false, fun s =>
      ⟨_, fun hx => scratchOk_setScratch7 (hmode s hx) hpos hne (hpb ▸ hnp) hi1.le hi2, rfl⟩⟩

/-- Every block instruction runs as a block of its codec. -/
theorem execInner_runsAsBlock {i : Instr} {f : Fmt} (hi : i.stream = .block f) : RunsAsBlock f (execInner i) := by
  cases i <;> simp only [Instr.stream, Stream.block.injEq, reduceCtorEq] at hi <;> subst hi
  case bc1 c0 c1 sel =>
    exact ⟨_, tileOk_map (fun _ => by simp [Rgba.bytes]) false, fun s =>
      ⟨_, fun h => scratchOk_setColourHalf h c0 c1 sel (bc1Palette_length c0 c1), rfl⟩⟩
  case bc2 alpha c0 c1 sel =>
    exact ⟨_, tileOk_map (fun _ => by simp [Rgba.bytes]) false, fun s =>
      ⟨_, fun h => scratchOk_setColourHalf (scratchOk_setAlphaGrid h alpha) c0 c1 sel (fourColour_length c0 c1), rfl⟩⟩
  case bc3 e0 e1 asel c0 c1 sel =>
    exact ⟨_, tileOk_map (fun _ => by simp [Rgba.bytes]) false, fun s =>
      ⟨_, fun h => scratchOk_setColourHalf
        (scratchOk_setGradHalf h (toNat_bounds e0) (toNat_bounds e1) asel (grad8u_length e0 e1))
        c0 c1 sel (fourColour_length c0 c1), rfl⟩⟩
  case bc4 e0 e1 sel =>
    exact ⟨_, tileOk_map (fun _ => by simp) false, fun s =>
      ⟨_, fun h => scratchOk_setGradHalf h (toNat_bounds e0) (toNat_bounds e1) sel (grad8u_length e0 e1), rfl⟩⟩
  case bc4s e0 e1 sel =>
    exact ⟨_, tileOk_map (fun _ => by simp) false, fun s =>
      ⟨_, fun h => scratchOk_setGradHalf h (signedRef_bounds e0) (signedRef_bounds e1) sel (grad8s_length _ _), rfl⟩⟩
  case bc5 re0 re1 rsel ge0 ge1 gsel =>
    exact ⟨_, tileOk_map (fun _ => by simp) false, fun s =>
      ⟨_, fun h => scratchOk_setGradHalf
        (scratchOk_setGradHalf h (toNat_bounds re0) (toNat_bounds re1) rsel (grad8u_length re0 re1))
        (toNat_bounds ge0) (toNat_bounds ge1) gsel (grad8u_length ge0 ge1), rfl⟩⟩
  case bc5s re0 re1 rsel ge0 ge1 gsel =>
    exact ⟨_, tileOk_map (fun _ => by simp) false, fun s =>
      ⟨_, fun h => scratchOk_setGradHalf
        (scratchOk_setGradHalf h (signedRef_bounds re0) (signedRef_bounds re1) rsel (grad8s_length _ _))
        (signedRef_bounds ge0) (signedRef_bounds ge1) gsel (grad8s_length _ _), rfl⟩⟩
  case bc6hRsv13 | bc6hRsv17 | bc6hRsv1B | bc6hRsv1F => exact runReserved6_runsAsBlock _
  case bc7Rsv =>
    exact ⟨_, tileOk_blockError _ (by simp) (by simp), fun _ =>
      ⟨_, fun h => scratchOk_setMode7 h (m := 8) (bits := 8) (by decide) (by decide), rfl⟩⟩
  case bc6hM1 => exact runBc6h_runsAsBlock (d := mode6M1) (by decide) _
  case bc6hM2 => exact runBc6h_runsAsBlock (d := mode6M2) (by decide) _
  case bc6hM3 => exact runBc6h_runsAsBlock (d := mode6M3) (by decide) _
  case bc6hM4 => exact runBc6h_runsAsBlock (d := mode6M4) (by decide) _
  case bc6hM5 => exact runBc6h_runsAsBlock (d := mode6M5) (by decide) _
  case bc6hM6 => exact runBc6h_runsAsBlock (d := mode6M6) (by decide) _
  case bc6hM7 => exact runBc6h_runsAsBlock (d := mode6M7) (by decide) _
  case bc6hM8 => exact runBc6h_runsAsBlock (d := mode6M8) (by decide) _
  case bc6hM9 => exact runBc6h_runsAsBlock (d := mode6M9) (by decide) _
  case bc6hM10 => exact runBc6h_runsAsBlock (d := mode6M10) (by decide) _
  case bc6hM11 => exact runBc6h_runsAsBlock (d := mode6M11) (by decide) _
  case bc6hM12 => exact runBc6h_runsAsBlock (d := mode6M12) (by decide) _
  case bc6hM13 => exact runBc6h_runsAsBlock (d := mode6M13) (by decide) _
  case bc6hM14 => exact runBc6h_runsAsBlock (d := mode6M14) (by decide) _
  case bc7M0 => exact runBc7_runsAsBlock (d := mode7M0) (by decide) _
  case bc7M1 => exact runBc7_runsAsBlock (d := mode7M1) (by decide) _
  case bc7M2 => exact runBc7_runsAsBlock (d := mode7M2) (by decide) _
  case bc7M3 => exact runBc7_runsAsBlock (d := mode7M3) (by decide) _
  case bc7M4 => exact runBc7_runsAsBlock (d := mode7M4) (by decide) _
  case bc7M5 => exact runBc7_runsAsBlock (d := mode7M5) (by decide) _
  case bc7M6 => exact runBc7_runsAsBlock (d := mode7M6) (by decide) _
  case bc7M7 => exact runBc7_runsAsBlock (d := mode7M7) (by decide) _

end Sys2Proof.Proofs
end

section
/-! ## What a block, a dispatch code and a block step leave -/

namespace Sys2Proof.Proofs

open Sys2Proof.Machine Sys2Proof.Safety Sys2Proof.Claims

/-! ### Blocks -/

/-- A tile stored as PX keeps the shape of the scratch. -/
theorem scratchOk_px {x : Scratch} (h : ScratchOk x) {u : Tile} (hu : TileOk u) : ScratchOk { x with px := u.px } :=
  { h with px := hu }

/-- What a block that answers leaves: PAD of the same size, SRCOFF one block on, BLKERR and a sound scratch new, the rest
unchanged (`41_block_iteration.md` R115, R116). -/
theorem execInner_block_cases {i : Instr} {f : Fmt} {s t : State} (hi : i.stream = .block f) (h : execInner i s = .next t) :
    ∃ (p q : List Byte) (e : Bool) (x : Scratch), s.pad = some p ∧ q.length = p.length ∧
      (ScratchOk s.scratch → ScratchOk x) ∧
      t = { s with pad := some q, srcOff := s.srcOff + blockBytes f, blkErr := e, scratch := x } := by
  obtain ⟨u, hu, hm⟩ := execInner_runsAsBlock hi
  obtain ⟨x, hx, hs⟩ := hm s
  obtain ⟨p, q, hp, hq, rfl⟩ := finishBlock_cases (hs ▸ h)
  exact ⟨p, q, _, _, hp, padWrites_length _ hq, fun ho => scratchOk_px (hx ho) hu, rfl⟩

/-- The decoder of a stream of blocks gives blocks of that codec. -/
theorem decode_block_stream {f : Fmt} {bs rest : List Byte} {i : Instr} (h : decode (.block f) bs = .ok (i, rest)) :
    i.stream = .block f := by
  unfold decode at h
  split at h
  · cases h
  · split at h
    · rename_i j hj
      simp only [Except.ok.injEq, Prod.mk.injEq] at h
      exact h.1 ▸ decodeBlk_stream hj
    · cases h

/-- A block of at most sixteen bytes loaded into BLK keeps the shape of the scratch (`41_block_iteration.md` R115). -/
theorem scratchOk_fetched {x : Scratch} (h : ScratchOk x) (f : Fmt) (m : List Host.Cell) (a : Nat) :
    ScratchOk { x with blk := overwrite x.blk (Memory.readBytes m a (blockBytes f)), bitpos := 0 } := by
  have hf : blockBytes f ≤ 16 := by cases f <;> decide
  exact { h with bitpos := Nat.zero_le _, blk := (overwrite_length (by simpa [h.blk] using hf)).trans h.blk }

/-- A fetch gives a block of FMT and writes the scratch alone. -/
theorem fetchBlock_frame {s t : State} {i : Instr} (h : fetchBlock s = .ok (i, t)) :
    s.fmt ≠ .none ∧ i.stream = .block s.fmt ∧
      ∃ x : Scratch, (ScratchOk s.scratch → ScratchOk x) ∧ t = { s with scratch := x } := by
  obtain ⟨hf, -, hd, rfl⟩ := fetchBlock_cases h
  exact ⟨hf, decode_block_stream hd, _, fun ho => scratchOk_fetched ho s.fmt s.src s.srcOff, rfl⟩

/-- What a block fetched and run leaves, before the walk moves on. -/
theorem fetched_block_frame {i : Instr} {s u t : State} (hf : fetchBlock s = .ok (i, u)) (h : execInner i u = .next t) :
    ∃ (p q : List Byte) (e : Bool) (x : Scratch), s.pad = some p ∧ q.length = p.length ∧
      (ScratchOk s.scratch → ScratchOk x) ∧
      t = { s with pad := some q, srcOff := s.srcOff + blockBytes s.fmt, blkErr := e, scratch := x } := by
  obtain ⟨-, hi, x, hx, rfl⟩ := fetchBlock_frame hf
  obtain ⟨p, q, e, y, hp, hq, hy, rfl⟩ := execInner_block_cases hi h
  exact ⟨p, q, e, y, hp, hq, hy ∘ hx, rfl⟩

/-! ### Dispatch codes -/

/-- A meaning is a dispatch code of value `w`: it selects one codec, or raises `UNSUPPORTED_FORMAT` with `w`, or parses the
extended header (`46_resolver.md` R245, R246). -/
inductive RunsAsCode (w : Word) (m : State → Result) : Prop
  | select (f : Fmt) (payload : Nat) (hf : f ≠ .none) (h : ∀ s, m s = .next (selectFormat f payload s))
  | unsupported (h : ∀ s, m s = .next (raise .unsupportedFormat w s))
  | extended (h : ∀ s, m s = parseExtHeader s)

/-- Every FourCC code runs as the code of its word. -/
theorem execInner_fourcc {i : Instr} (hi : i.stream = .fourcc) : RunsAsCode (BitVec.ofNat 32 i.word) (execInner i) := by
  cases i <;> simp only [Instr.stream, reduceCtorEq] at hi
  case fourccDxt2 | fourccDxt4 => exact .unsupported fun _ => rfl
  case fourccOther w => exact .unsupported fun s => by simp [execInner, execFourccOther, unsupported, Instr.word]
  case fourccDx10 => exact .extended fun _ => rfl
  all_goals exact .select _ _ (by decide) fun _ => rfl

/-- Every enumerant runs as the code of its word. -/
theorem execInner_xfmt {i : Instr} (hi : i.stream = .xfmt) : RunsAsCode (BitVec.ofNat 32 i.word) (execInner i) := by
  cases i <;> simp only [Instr.stream, reduceCtorEq] at hi
  case xfmt96 => exact .unsupported fun _ => rfl
  case xfmtOther w => exact .unsupported fun s => by simp [execInner, execXfmtOther, unsupported, Instr.word]
  all_goals exact .select _ _ (by decide) fun _ => rfl

/-- A word found in a table of codes stands in it. -/
theorem mem_of_lookup {rows : List (Word × Instr)} {w : Word} {i : Instr} (h : rows.lookup w = some i) : (w, i) ∈ rows := by
  obtain ⟨l₁, l₂, rfl, -⟩ := List.lookup_eq_some_iff.1 h
  simp

/-- The rows of the FourCC table hold the words of their instructions (`30_encoding.md` R73). -/
theorem fourccRows_word : ∀ r ∈ fourccRows, r.2.stream = .fourcc ∧ BitVec.ofNat 32 r.2.word = r.1 := by decide

/-- The rows of the enumerant table hold the words of their instructions (`30_encoding.md` R74). -/
theorem xfmtRows_word : ∀ r ∈ xfmtRows, r.2.stream = .xfmt ∧ BitVec.ofNat 32 r.2.word = r.1 := by decide

/-- The instruction of a FourCC word is a FourCC code, and its word is that word. -/
theorem decodeFourcc_word (w : Word) : (decodeFourcc w).stream = .fourcc ∧ BitVec.ofNat 32 (decodeFourcc w).word = w := by
  unfold decodeFourcc
  cases h : fourccRows.lookup w with
  | none => exact ⟨rfl, by simp [Instr.word]⟩
  | some i => exact fourccRows_word _ (mem_of_lookup h)

/-- The instruction of an enumerant is an enumerant code, and its word is that enumerant. -/
theorem decodeXfmt_word (w : Word) : (decodeXfmt w).stream = .xfmt ∧ BitVec.ofNat 32 (decodeXfmt w).word = w := by
  unfold decodeXfmt
  cases h : xfmtRows.lookup w with
  | none => exact ⟨rfl, by simp [Instr.word]⟩
  | some i => exact xfmtRows_word _ (mem_of_lookup h)

/-- A FourCC word runs as its code. -/
theorem decodeFourcc_runs (w : Word) : RunsAsCode w (execInner (decodeFourcc w)) := by
  have h := execInner_fourcc (decodeFourcc_word w).1
  rwa [(decodeFourcc_word w).2] at h

/-- An enumerant runs as its code. -/
theorem decodeXfmt_runs (w : Word) : RunsAsCode w (execInner (decodeXfmt w)) := by
  have h := execInner_xfmt (decodeXfmt_word w).1
  rwa [(decodeXfmt_word w).2] at h

/-- The extended header parsed: the fault, or X loaded and the enumerant next (`46_resolver.md` R243). -/
theorem parseExtHeader_cases {s t : State} (h : parseExtHeader s = .next t) :
    t = raise .malformedContainer 5 s ∨ ∃ x, t = { s with ext := some x, phase := .xfmt } := by
  unfold parseExtHeader at h
  split at h
  · exact .inl (by simpa using h.symm)
  · split at h
    · cases h
    · exact .inr ⟨_, by simpa using h.symm⟩

/-- What a dispatch code that answers leaves. -/
theorem RunsAsCode.cases {w : Word} {m : State → Result} (hm : RunsAsCode w m) {s t : State} (h : m s = .next t) :
    (∃ f payload, f ≠ .none ∧ t = selectFormat f payload s) ∨ t = raise .unsupportedFormat w s ∨
      t = raise .malformedContainer 5 s ∨ ∃ x, t = { s with ext := some x, phase := .xfmt } := by
  cases hm with
  | select f payload hf e => exact .inl ⟨f, payload, hf, by simpa [e] using h.symm⟩
  | unsupported e => exact .inr (.inl (by simpa [e] using h.symm))
  | extended e => exact .inr (.inr (parseExtHeader_cases (e s ▸ h)))

/-- A dispatch step that answers: nothing outside the two dispatch phases, else the code of the register it reads. -/
theorem codeStep_cases {s t : State} (h : codeStep s = .next t) :
    t = s ∨ ∃ w m, RunsAsCode w m ∧ m s = .next t ∧
      ((s.phase = .fourcc ∧ w = s.hdr.pfFourcc) ∨ (s.phase = .xfmt ∧ w = (s.ext.getD {}).format)) := by
  unfold codeStep at h
  split at h
  case h_1 hp => exact .inr ⟨_, _, decodeFourcc_runs _, h, .inl ⟨hp, rfl⟩⟩
  case h_2 hp => exact .inr ⟨_, _, decodeXfmt_runs _, h, .inr ⟨hp, rfl⟩⟩
  all_goals exact .inl (by simpa using h.symm)

/-- The header part of RESOLVE that answers: a fault over the cleared registers, or the loaded header that passed its checks
(`46_resolver.md` R237). -/
theorem resolveHeader_cases {s t : State} (h : resolveHeader s = .next t) :
    t = raise .malformedContainer 1 (clearForResolve s) ∨
    ∃ hd, (∃ f info, headerFault hd = some (f, info) ∧ t = raise f info { clearForResolve s with hdr := hd }) ∨
      (headerFault hd = none ∧ t = { clearForResolve s with hdr := hd, phase := .fourcc }) := by
  unfold resolveHeader at h
  dsimp only at h
  split at h
  · exact .inl (by simpa using h.symm)
  · split at h
    · cases h
    · rename_i hd _
      refine .inr ⟨hd, ?_⟩
      split at h
      · rename_i f info hf
        exact .inl ⟨f, info, hf, by simpa using h.symm⟩
      · rename_i hf
        exact .inr ⟨hf, by simpa using h.symm⟩

end Sys2Proof.Proofs
end

section
/-! ## What every instruction but RESET keeps

SRC, SRC_LEN, the host's queue and CMD as they are, and the scratch in its shape: one relation, kept by every operation. -/

namespace Sys2Proof.Proofs

open Sys2Proof.Machine Sys2Proof.Safety Sys2Proof.Claims

/-- The host's part of the state unchanged, the scratch still of its shape. -/
structure Kept (s t : State) : Prop where
  src : t.src = s.src
  srcLen : t.srcLen = s.srcLen
  host : t.host = s.host
  cmd : t.cmd = s.cmd
  scratch : ScratchOk s.scratch → ScratchOk t.scratch

theorem Kept.refl (s : State) : Kept s s := ⟨rfl, rfl, rfl, rfl, id⟩

theorem Kept.trans {s t u : State} (h : Kept s t) (k : Kept t u) : Kept s u :=
  ⟨k.src.trans h.src, k.srcLen.trans h.srcLen, k.host.trans h.host, k.cmd.trans h.cmd, k.scratch ∘ h.scratch⟩

/-! ### Blocks and levels -/

theorem execInner_block_kept {i : Instr} {f : Fmt} {s t : State} (hi : i.stream = .block f) (h : execInner i s = .next t) :
    Kept s t := by
  obtain ⟨p, q, e, x, -, -, hx, rfl⟩ := execInner_block_cases hi h
  exact ⟨rfl, rfl, rfl, rfl, hx⟩

theorem fetchBlock_kept {i : Instr} {s t : State} (h : fetchBlock s = .ok (i, t)) : Kept s t := by
  obtain ⟨-, -, x, hx, rfl⟩ := fetchBlock_frame h
  exact ⟨rfl, rfl, rfl, rfl, hx⟩

theorem advanceBlock_kept (s : State) : Kept s (advanceBlock s) :=
  ⟨by simp, by simp, by simp, by simp, by simp⟩

theorem blockStep_kept {s t : State} (h : blockStep s = .next t) : Kept s t := by
  obtain ⟨i, u, v, hf, hv, rfl⟩ := blockStep_cases h
  obtain ⟨-, hi, -⟩ := fetchBlock_frame hf
  exact ((fetchBlock_kept hf).trans (execInner_block_kept hi hv)).trans (advanceBlock_kept v)

theorem runBlocks_kept {n : Nat} {s t : State} (h : runBlocks n s = .next t) : Kept s t := by
  induction n generalizing s with
  | zero =>
    obtain rfl : s = t := by simpa [runBlocks] using h
    exact .refl s
  | succ n ih =>
    obtain ⟨u, hu, ht⟩ := andThen_eq_next.1 h
    exact (blockStep_kept hu).trans (ih ht)

theorem levelStart_kept {p : Phase} {s t : State} (h : levelStart p s = .next t) : Kept s t := by
  obtain ⟨-, ⟨-, rfl⟩ | ⟨-, rfl⟩⟩ := levelStart_cases h
  · exact ⟨rfl, rfl, rfl, rfl, id⟩
  · exact ⟨rfl, rfl, rfl, rfl, id⟩

theorem levelFinish_kept {s t : State} (h : levelFinish s = .next t) : Kept s t := by
  obtain ⟨p, -, -, rfl⟩ := levelFinish_cases h
  exact ⟨rfl, rfl, rfl, rfl, id⟩

/-- A level that answers: stopped at its start, or all its blocks run and its record appended. -/
theorem levelBody_cases {p : Phase} {s t : State} (h : levelBody p s = .next t) :
    ∃ u, levelStart p s = .next u ∧
      ((u.phase = .waiting ∧ t = u) ∨
        (u.phase ≠ .waiting ∧ ∃ v, runBlocks (u.seq.bwide * u.seq.bhigh) u = .next v ∧ levelFinish v = .next t)) := by
  obtain ⟨u, hu, ht⟩ := andThen_eq_next.1 h
  refine ⟨u, hu, ?_⟩
  split at ht
  · rename_i hp
    exact .inl ⟨hp, by simpa using ht.symm⟩
  · rename_i hp
    exact .inr ⟨hp, andThen_eq_next.1 ht⟩

theorem levelBody_kept {p : Phase} {s t : State} (h : levelBody p s = .next t) : Kept s t := by
  obtain ⟨u, hu, ⟨-, rfl⟩ | ⟨-, v, hv, ht⟩⟩ := levelBody_cases h
  · exact levelStart_kept hu
  · exact ((levelStart_kept hu).trans (runBlocks_kept hv)).trans (levelFinish_kept ht)

/-- A chain that answers: no level left, or one more level run, stopped there or gone on. -/
theorem chainLoop_succ_cases {n k : Nat} {s t : State} (h : chainLoop (n + 1) k s = .next t) :
    ∃ u, levelBody .chain (setLevel k s) = .next u ∧
      ((u.unit = .faulted ∧ t = u) ∨ (u.unit ≠ .faulted ∧ chainLoop n (k + 1) u = .next t)) := by
  obtain ⟨u, hu, ht⟩ := andThen_eq_next.1 h
  refine ⟨u, hu, ?_⟩
  split at ht
  · rename_i hf
    exact .inl ⟨hf, by simpa using ht.symm⟩
  · rename_i hf
    exact .inr ⟨hf, ht⟩

theorem setLevel_kept (k : Nat) (s : State) : Kept s (setLevel k s) := ⟨rfl, rfl, rfl, rfl, id⟩

theorem chainLoop_kept {n k : Nat} {s t : State} (h : chainLoop n k s = .next t) : Kept s t := by
  induction n generalizing k s with
  | zero =>
    obtain rfl : s = t := by simpa [chainLoop] using h
    exact .refl s
  | succ n ih =>
    obtain ⟨u, hu, ⟨-, rfl⟩ | ⟨-, ht⟩⟩ := chainLoop_succ_cases h
    · exact (setLevel_kept k s).trans (levelBody_kept hu)
    · exact ((setLevel_kept k s).trans (levelBody_kept hu)).trans (ih ht)

/-! ### The resolver -/

theorem RunsAsCode.kept {w : Word} {m : State → Result} (hm : RunsAsCode w m) {s t : State} (h : m s = .next t) :
    Kept s t := by
  obtain ⟨f, payload, -, rfl⟩ | rfl | rfl | ⟨x, rfl⟩ := hm.cases h
  · exact ⟨rfl, rfl, rfl, rfl, id⟩
  · exact ⟨rfl, rfl, rfl, rfl, id⟩
  · exact ⟨rfl, rfl, rfl, rfl, id⟩
  · exact ⟨rfl, rfl, rfl, rfl, id⟩

theorem codeStep_kept {s t : State} (h : codeStep s = .next t) : Kept s t := by
  obtain rfl | ⟨w, m, hm, ht, -⟩ := codeStep_cases h
  · exact .refl _
  · exact hm.kept ht

theorem resolveHeader_kept {s t : State} (h : resolveHeader s = .next t) : Kept s t := by
  obtain rfl | ⟨hd, ⟨f, info, -, rfl⟩ | ⟨-, rfl⟩⟩ := resolveHeader_cases h
  · exact ⟨rfl, rfl, rfl, rfl, id⟩
  · exact ⟨rfl, rfl, rfl, rfl, id⟩
  · exact ⟨rfl, rfl, rfl, rfl, id⟩

/-- RESOLVE that answers ran its three parts (`46_resolver.md` R237). -/
theorem execCmdResolve_cases {s t : State} (h : execCmdResolve s = .next t) :
    ∃ u v, resolveHeader s = .next u ∧ codeStep u = .next v ∧ codeStep v = .next t := by
  obtain ⟨v, hv, ht⟩ := andThen_eq_next.1 h
  obtain ⟨u, hu, hv⟩ := andThen_eq_next.1 hv
  exact ⟨u, v, hu, hv, ht⟩

/-! ### Commands and steps -/

/-- A command other than RESET keeps the host's part and the shape of the scratch. -/
theorem exec_cmd_kept {i : Instr} {s t : State} (hi : i.stream = .cmd) (hr : i ≠ .cmdReset) (h : exec i s = .next t) :
    Kept s t := by
  cases i <;> simp only [Instr.stream, reduceCtorEq] at hi
  case cmdResolve =>
    obtain ⟨u, v, hu, hv, ht⟩ := execCmdResolve_cases h
    exact ((resolveHeader_kept hu).trans (codeStep_kept hv)).trans (codeStep_kept ht)
  case cmdLevel =>
    simp only [exec, execCmdLevel] at h
    split at h
    · obtain rfl : s = t := by simpa using h
      exact .refl s
    · exact levelBody_kept h
  case cmdChain =>
    simp only [exec, execCmdChain] at h
    split at h
    · obtain rfl : s = t := by simpa using h
      exact .refl s
    · exact chainLoop_kept h
  case cmdReset => exact absurd rfl hr
  all_goals
    obtain rfl : s = t := by simpa [exec, execCmdNop, execCmdRsv5, execCmdRsv6, execCmdRsv7] using h
    exact .refl s

/-- So does every instruction but RESET. -/
theorem exec_kept {i : Instr} {s t : State} (hr : i ≠ .cmdReset) (h : exec i s = .next t) : Kept s t := by
  by_cases hc : i.stream = .cmd
  · exact exec_cmd_kept hc hr h
  · rw [exec_eq_execInner hc] at h
    cases hst : i.stream with
    | cmd => exact absurd hst hc
    | fourcc => exact (execInner_fourcc hst).kept h
    | xfmt => exact (execInner_xfmt hst).kept h
    | block f => exact execInner_block_kept hst h

/-- Settles O53: RESET keeps the host's part but CMD, every other instruction all of it. -/
theorem noInstructionWritesTheSource : Obligations.NoInstructionWritesTheSource := by
  intro i s t h
  by_cases hr : i = .cmdReset
  · subst hr
    obtain rfl : resetUnit s = t := by simpa [exec, execCmdReset] using h
    exact ⟨rfl, rfl, rfl, fun hne => absurd rfl hne⟩
  · obtain ⟨hsrc, hlen, hhost, hcmd, -⟩ := exec_kept hr h
    exact ⟨hsrc, hlen, hhost, fun _ => hcmd⟩

/-- What a step adds after an instruction that answers: nothing, the walk alone, or the walk and the end of the level. -/
theorem retire_cases {p : Phase} {s t : State} (h : retire p s = .next t) :
    (p ≠ .level ∧ p ≠ .chain ∧ t = s) ∨
    ((p = .level ∨ p = .chain) ∧
      (((advanceBlock s).seq.by_ < (advanceBlock s).seq.bhigh ∧ t = advanceBlock s) ∨
        ∃ u, levelFinish (advanceBlock s) = .next u ∧
          ((p = .chain ∧ u.level.toNat + 1 < chainLength u ∧ levelStart .chain (setLevel (u.level.toNat + 1) u) = .next t) ∨
            t = u))) := by
  unfold retire at h
  split at h
  · rename_i hp
    refine .inr ⟨hp, ?_⟩
    dsimp only at h
    split at h
    · rename_i hb
      exact .inl ⟨hb, by simpa using h.symm⟩
    · obtain ⟨u, hu, ht⟩ := andThen_eq_next.1 h
      refine .inr ⟨u, hu, ?_⟩
      split at ht
      · rename_i hc
        exact .inl ⟨hc.1, hc.2, ht⟩
      · exact .inr (by simpa using ht.symm)
  · rename_i hp
    exact .inl ⟨fun e => hp (.inl e), fun e => hp (.inr e), by simpa using h.symm⟩

theorem retire_kept {p : Phase} {s t : State} (h : retire p s = .next t) : Kept s t := by
  obtain ⟨-, -, rfl⟩ | ⟨-, ⟨-, rfl⟩ | ⟨u, hu, ⟨-, -, ht⟩ | rfl⟩⟩ := retire_cases h
  · exact .refl _
  · exact advanceBlock_kept s
  · exact (((advanceBlock_kept s).trans (levelFinish_kept hu)).trans (setLevel_kept _ u)).trans (levelStart_kept ht)
  · exact (advanceBlock_kept s).trans (levelFinish_kept hu)

end Sys2Proof.Proofs
end

section
/-! ## What a step fetches, and what the host writes -/

namespace Sys2Proof.Proofs

open Sys2Proof.Machine Sys2Proof.Safety Sys2Proof.Claims

/-- A command code decodes to a command (`10_state.md` R27). -/
theorem decodeCmd_stream (c : BitVec 3) : (decodeCmd c).stream = .cmd := by
  unfold decodeCmd
  repeat refine stream_ite rfl ?_
  rfl

/-- A host write is fetched between commands only, and taken from the queue (`46_resolver.md` R255). -/
theorem fetch_action {s u : State} {a : HostAction} (h : fetch s = .ok (.action a u)) :
    s.phase = .waiting ∧ ∃ rest, u = { s with host := rest } := by
  unfold fetch at h
  split at h
  case h_1 hp =>
    split at h
    · cases h
    · rename_i b rest _
      refine ⟨hp, rest, ?_⟩
      cases b with
      | writeSrc addr bs =>
        simp only [fetchAction, Except.ok.injEq, Fetched.action.injEq] at h
        exact h.2.symm
      | writeReg no v =>
        simp only [fetchAction, Except.ok.injEq] at h
        split at h
        · cases h
        · simp only [Fetched.action.injEq] at h
          exact h.2.symm
  case h_2 => cases h
  case h_3 => cases h
  all_goals split at h <;> cases h

/-- An instruction fetched: a command the host wrote to CMD, the code of a dispatch register, or a block of FMT. -/
theorem fetch_instr {s u : State} {i : Instr} (h : fetch s = .ok (.instr i u)) :
    (s.phase = .waiting ∧ i.stream = .cmd ∧ ∃ rest c, u = { s with host := rest, cmd := c }) ∨
    (s.phase = .fourcc ∧ i = decodeFourcc s.hdr.pfFourcc ∧ u = s) ∨
    (s.phase = .xfmt ∧ i = decodeXfmt (s.ext.getD {}).format ∧ u = s) ∨
    ((s.phase = .level ∨ s.phase = .chain) ∧ fetchBlock s = .ok (i, u)) := by
  unfold fetch at h
  split at h
  case h_1 hp =>
    refine .inl ⟨hp, ?_⟩
    split at h
    · cases h
    · rename_i b rest _
      cases b with
      | writeSrc addr bs => cases h
      | writeReg no v =>
        simp only [fetchAction, Except.ok.injEq] at h
        split at h
        · simp only [Fetched.instr.injEq] at h
          obtain ⟨rfl, rfl⟩ := h
          exact ⟨decodeCmd_stream _, rest, _, rfl⟩
        · cases h
  case h_2 hp =>
    simp only [Except.ok.injEq, Fetched.instr.injEq] at h
    exact .inr (.inl ⟨hp, h.1.symm, h.2.symm⟩)
  case h_3 hp =>
    simp only [Except.ok.injEq, Fetched.instr.injEq] at h
    exact .inr (.inr (.inl ⟨hp, h.1.symm, h.2.symm⟩))
  all_goals
    rename_i hp
    split at h
    · rename_i hf
      simp only [Except.ok.injEq, Fetched.instr.injEq] at h
      obtain ⟨rfl, rfl⟩ := h
      exact .inr (.inr (.inr ⟨by simp [hp], hf⟩))
    · cases h

/-- A host write that answers: bytes of SRC, SRC_LEN, nothing, or, in READY, one of SRCOFF, LW, LH, LEVEL
(`46_resolver.md` R255). -/
theorem hostAct_cases {a : HostAction} {s t : State} (h : hostAct a s = .next t) :
    (∃ addr bs, t = { s with src := Memory.writeBytes s.src addr bs }) ∨ (∃ n, t = { s with srcLen := n }) ∨ t = s ∨
    (s.unit = .ready ∧ ∃ off w h l, t = { s with srcOff := off, lw := w, lh := h, level := l }) := by
  cases a with
  | writeSrc addr bs =>
    simp only [hostAct, hostWriteSrc, config, Host.Outcome.next.injEq] at h
    exact .inl ⟨addr, bs, h.symm⟩
  | writeReg no v =>
    simp only [hostAct, hostWriteReg] at h
    split at h
    · simp only [hostWriteSrcLen, config, Host.Outcome.next.injEq] at h
      exact .inr (.inl ⟨v, h.symm⟩)
    · split at h
      · exact .inr (.inr (.inl (by simpa using h.symm)))
      · rename_i hr
        refine .inr (.inr (.inr ⟨by simpa using hr, ?_⟩))
        repeat' split at h
        all_goals
          simp only [Host.Outcome.next.injEq] at h
          exact ⟨_, _, _, _, h.symm⟩

/-! ### The scratch over a step -/

/-- The scratch after reset has its shape (`70_reset_and_hazards.md` R291). -/
theorem scratchOk_reset : ScratchOk {} := by
  constructor <;> decide

/-- Every instruction keeps the shape of the scratch. -/
theorem exec_scratchOk {i : Instr} {s t : State} (hs : ScratchOk s.scratch) (h : exec i s = .next t) :
    ScratchOk t.scratch := by
  by_cases hr : i = .cmdReset
  · subst hr
    obtain rfl : resetUnit s = t := by simpa [exec, execCmdReset] using h
    exact scratchOk_reset
  · exact (exec_kept hr h).scratch hs

/-- What is fetched to run has the scratch of its shape. -/
theorem fetch_instr_scratchOk {s u : State} {i : Instr} (hs : ScratchOk s.scratch) (h : fetch s = .ok (.instr i u)) :
    ScratchOk u.scratch := by
  obtain ⟨-, -, rest, c, rfl⟩ | ⟨-, -, rfl⟩ | ⟨-, -, rfl⟩ | ⟨-, hb⟩ := fetch_instr h
  · exact hs
  · exact hs
  · exact hs
  · exact (fetchBlock_kept hb).scratch hs

/-- A host write leaves the scratch alone (`10_state.md` R33). -/
theorem hostAct_scratch {a : HostAction} {s t : State} (h : hostAct a s = .next t) : t.scratch = s.scratch := by
  obtain ⟨addr, bs, rfl⟩ | ⟨n, rfl⟩ | rfl | ⟨-, off, w, h, l, rfl⟩ := hostAct_cases h
  · rfl
  · rfl
  · rfl
  · rfl

/-- Settles O52: every instruction keeps the shape, and so do the fetch and the walk around it. -/
theorem stepKeepsTheScratchShape : Obligations.StepKeepsTheScratchShape := by
  intro s t hs h
  obtain ⟨-, rfl⟩ | ⟨a, u, hf, ha⟩ | ⟨i, u, v, hf, hv, hr⟩ := step_cases h
  · exact hs
  · obtain ⟨-, rest, rfl⟩ := fetch_action hf
    rw [hostAct_scratch ha]
    exact hs
  · exact (retire_kept hr).scratch (exec_scratchOk (fetch_instr_scratchOk hs hf) hv)

end Sys2Proof.Proofs
end

section
/-! ## The invariant over a step

Two states of the unit carry the proof: it is at WORK (READY, a level or a chain runs or may start) or it is RESOLVING (IDLE,
inside RESOLVE). Every operation goes from one of them to one of them, or stops in a fault that meets the invariant. -/

namespace Sys2Proof.Proofs

open Sys2Proof.Machine Sys2Proof.Safety Sys2Proof.Claims

/-! ### The parts of the invariant -/

theorem faultOk_none {s : State} (h : s.fault = .none) : FaultOk s ↔ s.faultInfo = 0 := by simp [FaultOk, h]

theorem phaseOk_waiting {s : State} (h : s.phase = .waiting) : PhaseOk s ↔ s.pad = none := by simp [PhaseOk, h]

theorem phaseOk_level {s : State} (h : s.phase = .level) : PhaseOk s ↔ WalkOk s := by simp [PhaseOk, h]

theorem phaseOk_chain {s : State} (h : s.phase = .chain) :
    PhaseOk s ↔ WalkOk s ∧ s.level.toNat < chainLength s := by simp [PhaseOk, h]

/-- Outside FAULTED there is no fault and FAULT_INFO is 0 (`10_state.md` R27). -/
theorem noFault_of_inv {s : State} (h : Inv s) (hu : s.unit ≠ .faulted) : s.fault = .none ∧ s.faultInfo = 0 := by
  have hf : s.fault = .none := by
    by_contra hne
    exact hu (h.faulted.2 hne)
  exact ⟨hf, (faultOk_none hf).1 h.fault⟩

/-! ### At work -/

/-- The unit at work: READY with a codec, no fault, SRC canonical, every record sound. -/
structure Working (s : State) : Prop where
  src : Memory.wf s.src
  ready : s.unit = .ready
  codec : s.fmt ≠ .none
  fault : s.fault = .none
  info : s.faultInfo = 0
  records : ∀ r ∈ s.outq, RecordOk r

theorem working_of_inv {s : State} (h : Inv s) (hr : s.unit = .ready) : Working s := by
  obtain ⟨hf, hi⟩ := noFault_of_inv h (by simp [hr])
  exact ⟨h.src, hr, h.ready hr, hf, hi, h.records⟩

/-- At work the invariant asks only for the phase. -/
theorem Working.inv {s : State} (h : Working s) (hp : PhaseOk s) : Inv s where
  src := h.src
  ready _ := h.codec
  idle hi := by simp [h.ready] at hi
  faulted := by simp [h.ready, h.fault]
  noOutput hf := by simp [h.ready] at hf
  fault := (faultOk_none h.fault).2 h.info
  records := h.records
  phase := hp

/-- A level that does not fit stops the unit in a sound fault (`60_exceptions.md` R270). -/
theorem Working.inv_raise {s : State} (h : Working s) : Inv (raise .truncatedStream s.level s) where
  src := h.src
  ready hr := by simp at hr
  idle hi := by simp at hi
  faulted := by simp
  noOutput _ := rfl
  fault := ⟨rfl, h.codec⟩
  records := List.forall_mem_nil _
  phase := rfl

theorem Working.setLevel {s : State} (h : Working s) (k : Nat) : Working (setLevel k s) := { h with }

theorem Working.setGrid {s : State} (h : Working s) : Working (setGrid s) := { h with }

theorem Working.allocPad {s : State} (h : Working s) (p : Phase) : Working (allocPad p s) := { h with }

theorem Working.advanceBlock {s : State} (h : Working s) : Working (advanceBlock s) where
  src := by simpa using h.src
  ready := by simpa using h.ready
  codec := by simpa using h.codec
  fault := by simpa using h.fault
  info := by simpa using h.info
  records := by simpa using h.records

/-- A block leaves the unit at work. -/
theorem Working.block {s : State} (h : Working s) (pad : Option (List Byte)) (off : Nat) (e : Bool) (x : Scratch) :
    Working { s with pad := pad, srcOff := off, blkErr := e, scratch := x } := { h with }

theorem Working.blockStep {s t : State} (hw : Working s) (h : blockStep s = .next t) : Working t := by
  obtain ⟨i, u, v, hf, hv, rfl⟩ := blockStep_cases h
  obtain ⟨p, q, e, x, -, -, -, rfl⟩ := fetched_block_frame hf hv
  exact (hw.block (some q) _ e x).advanceBlock

theorem Working.runBlocks {n : Nat} {s t : State} (hw : Working s) (h : runBlocks n s = .next t) : Working t := by
  induction n generalizing s with
  | zero =>
    obtain rfl : s = t := by simpa [Machine.runBlocks] using h
    exact hw
  | succ n ih =>
    obtain ⟨u, hu, ht⟩ := andThen_eq_next.1 h
    exact ih (hw.blockStep hu) ht

/-- The end of a level appends a sound record, and the unit waits without PAD (`41_block_iteration.md` R118, R119). -/
theorem Working.levelFinish {s t : State} (hw : Working s) (h : levelFinish s = .next t) : Working t ∧ PhaseOk t := by
  obtain ⟨p, -, hl, rfl⟩ := levelFinish_cases h
  refine ⟨{ hw with records := fun r hr => ?_ }, rfl⟩
  rcases List.mem_append.1 hr with hr | hr
  · exact hw.records r hr
  · rw [List.mem_singleton.1 hr]
    exact ⟨hw.codec, hl⟩

/-! ### The walk -/

theorem blocksAcross_pos {n : Nat} (h : n ≠ 0) : 0 < blocksAcross n := by
  unfold blocksAcross
  omega

/-- The walk starts at the first block of a level that fits (`41_block_iteration.md` R111-R114). -/
theorem walkOk_allocPad {p : Phase} {s : State} (hr : s.unit = .ready) (hw : s.lw ≠ 0) (hh : s.lh ≠ 0)
    (hf : levelTruncated (setGrid s) = false) : WalkOk (allocPad p (setGrid s)) where
  ready := hr
  grid := ⟨rfl, rfl, rfl⟩
  inside := ⟨blocksAcross_pos (by simpa [BitVec.toNat_eq] using hw), blocksAcross_pos (by simpa [BitVec.toNat_eq] using hh)⟩
  row := by simp
  off := by simp
  pad := ⟨_, rfl, by simp [padSize]⟩
  src := by
    have hfit : ¬(setGrid s).srcLen < (setGrid s).srcOff + levelSize (setGrid s) := by
      rw [← levelTruncated_iff, hf]
      simp
    simp only [blocksLeft, levelSize, allocPad_seq, allocPad_srcOff, allocPad_srcLen, allocPad_fmt, Nat.sub_zero] at hfit ⊢
    rw [Nat.mul_comm (setGrid s).seq.bhigh]
    omega

/-- One block on, one block less is left. -/
theorem blocksLeft_advanceBlock {s : State} (hx : s.seq.bx < s.seq.bwide) (hy : s.seq.by_ < s.seq.bhigh) :
    blocksLeft s = blocksLeft (advanceBlock s) + 1 := by
  obtain ⟨n, hn⟩ : ∃ n, s.seq.bhigh = s.seq.by_ + n + 1 := ⟨s.seq.bhigh - s.seq.by_ - 1, by omega⟩
  have hrows : (s.seq.bhigh - s.seq.by_) * s.seq.bwide = n * s.seq.bwide + s.seq.bwide := by
    rw [hn, show s.seq.by_ + n + 1 - s.seq.by_ = n + 1 by omega, Nat.succ_mul]
  have hnext : s.seq.bhigh - (s.seq.by_ + 1) = n := by omega
  simp only [blocksLeft, advanceBlock_seq]
  split
  · dsimp only
    omega
  · dsimp only
    rw [hnext]
    omega

/-- A block and the walk after it keep the walk inside its level, until the last row is done (`41_block_iteration.md` R114,
R115). -/
theorem walkOk_advanceBlock {s : State} (h : WalkOk s) {p q : List Byte} (hp : s.pad = some p) (hq : q.length = p.length)
    (e : Bool) (x : Scratch) {v : State}
    (hv : v = { s with pad := some q, srcOff := s.srcOff + blockBytes s.fmt, blkErr := e, scratch := x })
    (hb : (advanceBlock v).seq.by_ < (advanceBlock v).seq.bhigh) : WalkOk (advanceBlock v) := by
  obtain ⟨hready, ⟨hwide, hhigh, hstride⟩, ⟨hx, hy⟩, hrow, hoff, ⟨p', hp', hlen⟩, hsrc⟩ := h
  obtain rfl : p' = p := by simpa [hp'] using hp
  have hleft : blocksLeft v = blocksLeft (advanceBlock v) + 1 :=
    blocksLeft_advanceBlock (by simpa [hv] using hx) (by simpa [hv] using hy)
  have hsame : blocksLeft s = blocksLeft v := by
    rw [hv]
    rfl
  have hbytes : v.srcOff + blocksLeft (advanceBlock v) * blockBytes v.fmt ≤ v.srcLen := by
    rw [hsame, hleft, Nat.succ_mul] at hsrc
    subst hv
    dsimp only
    omega
  have hpad : ∃ r, (advanceBlock v).pad = some r ∧ r.length = padSize (advanceBlock v) := by
    refine ⟨q, by simp [hv], ?_⟩
    rw [hq, hlen]
    subst hv
    simp only [padSize, advanceBlock_seq, advanceBlock_fmt]
    split <;> rfl
  refine { ready := by simpa [hv] using hready, grid := ?_, inside := ⟨?_, hb⟩, row := ?_, off := ?_, pad := hpad,
           src := by simpa using hbytes }
  all_goals
    clear hb hpad hbytes hleft hsame hsrc
    subst hv
    simp only [advanceBlock_seq, advanceBlock_lw, advanceBlock_lh, advanceBlock_fmt]
    split
  · exact ⟨hwide, hhigh, hstride⟩
  · exact ⟨hwide, hhigh, hstride⟩
  · assumption
  · exact Nat.zero_lt_of_lt hx
  · exact hrow
  · dsimp only
    rw [hrow]
    ring
  · dsimp only
    rw [hoff]
    ring
  · dsimp only
    rw [hrow]
    ring

/-! ### Levels and chains -/

/-- A level starts at a sound walk, or stops in a sound fault. -/
theorem Working.levelStart_inv {p : Phase} {s t : State} (hs : Working s) (hw : s.lw ≠ 0) (hh : s.lh ≠ 0)
    (hp : p = .level ∨ (p = .chain ∧ s.level.toNat < chainLength s)) (h : levelStart p s = .next t) : Inv t := by
  obtain ⟨-, ⟨-, rfl⟩ | ⟨hf, rfl⟩⟩ := levelStart_cases h
  · exact hs.setGrid.inv_raise
  · have hwalk : WalkOk (Machine.allocPad p (Machine.setGrid s)) := walkOk_allocPad hs.ready hw hh hf
    refine (hs.setGrid.allocPad p).inv ?_
    obtain rfl | ⟨rfl, hk⟩ := hp
    · exact hwalk
    · exact ⟨hwalk, hk⟩

/-- A whole level ends at work and waiting, or stops in a sound fault. -/
theorem Working.levelBody {p : Phase} {s t : State} (hs : Working s) (hp : p ≠ .waiting) (h : levelBody p s = .next t) :
    Inv t ∧ (t.unit ≠ .faulted → Working t) := by
  obtain ⟨u, hu, ht⟩ := levelBody_cases h
  obtain ⟨-, ⟨-, rfl⟩ | ⟨-, rfl⟩⟩ := levelStart_cases hu
  · obtain ⟨-, rfl⟩ | ⟨hne, -⟩ := ht
    · exact ⟨hs.setGrid.inv_raise, fun hf => absurd rfl hf⟩
    · exact absurd rfl hne
  · obtain ⟨he, -⟩ | ⟨-, v, hv, ht⟩ := ht
    · exact absurd he hp
    · obtain ⟨hwork, hphase⟩ := ((hs.setGrid.allocPad p).runBlocks hv).levelFinish ht
      exact ⟨hwork.inv hphase, fun _ => hwork⟩

/-- The rest of a chain keeps the invariant (`46_resolver.md` R250). -/
theorem Working.chainLoop_inv {n k : Nat} {s t : State} (hs : Working s) (hi : Inv s) (h : chainLoop n k s = .next t) :
    Inv t := by
  induction n generalizing k s with
  | zero =>
    obtain rfl : s = t := by simpa [chainLoop] using h
    exact hi
  | succ n ih =>
    obtain ⟨u, hu, ht⟩ := chainLoop_succ_cases h
    obtain ⟨hui, huw⟩ := (hs.setLevel k).levelBody (by decide) hu
    obtain ⟨-, rfl⟩ | ⟨hne, ht⟩ := ht
    · exact hui
    · exact ih (huw hne) hui ht

/-! ### Resolving -/

/-- The unit inside RESOLVE: IDLE, cleared, no codec yet. -/
structure Resolving (s : State) : Prop where
  src : Memory.wf s.src
  idle : s.unit = .idle
  codec : s.fmt = .none
  outq : s.outq = []
  fault : s.fault = .none
  info : s.faultInfo = 0
  pad : s.pad = none

theorem resolving_of_inv {s : State} (h : Inv s) (hu : s.unit = .idle) (hp : s.pad = none) : Resolving s := by
  obtain ⟨hf, hi⟩ := noFault_of_inv h (by simp [hu])
  exact ⟨h.src, hu, (h.idle hu).1, (h.idle hu).2, hf, hi, hp⟩

/-- Inside RESOLVE the invariant asks only for the phase. -/
theorem Resolving.inv {s : State} (h : Resolving s) (hp : PhaseOk s) : Inv s where
  src := h.src
  ready hr := by simp [h.idle] at hr
  idle _ := ⟨h.codec, h.outq⟩
  faulted := by simp [h.idle, h.fault]
  noOutput _ := h.outq
  fault := (faultOk_none h.fault).2 h.info
  records := by simp [h.outq]
  phase := hp

/-- A fault of RESOLVE is sound when FAULT_INFO is what its class says (`60_exceptions.md` R267). -/
theorem Resolving.inv_raise {s : State} (h : Resolving s) {f : FaultClass} {info : Word} (hf : f ≠ .none)
    (hok : FaultOk (raise f info s)) : Inv (raise f info s) where
  src := h.src
  ready hr := by simp at hr
  idle hi := by simp at hi
  faulted := by simpa using hf
  noOutput _ := rfl
  fault := hok
  records := List.forall_mem_nil _
  phase := rfl

/-- A malformed container is recorded with a cause in 1..5. -/
theorem Resolving.inv_malformed {s : State} (h : Resolving s) {info : Word} (hi : 1 ≤ info.toNat ∧ info.toNat ≤ 5) :
    Inv (raise .malformedContainer info s) :=
  h.inv_raise (by decide) ⟨hi.1, hi.2, h.codec⟩

/-- An unsupported format is recorded with its code. -/
theorem Resolving.inv_unsupported {s : State} (h : Resolving s) {info : Word} (hi : info = offendingCode s) :
    Inv (raise .unsupportedFormat info s) :=
  h.inv_raise (by decide) ⟨hi, h.codec⟩

/-- A codec found puts the unit to work. -/
theorem Resolving.inv_select {s : State} (h : Resolving s) {f : Fmt} (hf : f ≠ .none) (payload : Nat) :
    Inv (selectFormat f payload s) := by
  have hw : Working (selectFormat f payload s) := ⟨h.src, rfl, hf, h.fault, h.info, by simp [h.outq]⟩
  exact hw.inv h.pad

/-- A header that fails a check: which class, and its FAULT_INFO (`46_resolver.md` R240-R244). -/
theorem headerFault_some {hd : Header} {f : FaultClass} {info : Word} (h : headerFault hd = some (f, info)) :
    (f = .malformedContainer ∧ 1 ≤ info.toNat ∧ info.toNat ≤ 5) ∨
      (f = .unsupportedFormat ∧ info = hd.pfFlags ∧ hd.pfFlags.getLsbD 2 = false) := by
  unfold headerFault at h
  split at h
  · cases h
    exact .inl ⟨rfl, by decide⟩
  · split at h
    · cases h
      exact .inl ⟨rfl, by decide⟩
    · split at h
      · cases h
        exact .inl ⟨rfl, by decide⟩
      · split at h
        · rename_i hb
          cases h
          exact .inr ⟨rfl, rfl, hb⟩
        · cases h

/-- A header that passes its checks has the FourCC flag (`46_resolver.md` R244). -/
theorem headerFault_none {hd : Header} (h : headerFault hd = none) : hd.pfFlags.getLsbD 2 = true := by
  unfold headerFault at h
  split at h
  · cases h
  · split at h
    · cases h
    · split at h
      · cases h
      · split at h
        · cases h
        · rename_i hb
          simpa using hb

/-- The header part of RESOLVE keeps the invariant (`46_resolver.md` R237). -/
theorem resolveHeader_inv {s t : State} (hi : Inv s) (hp : s.pad = none) (h : resolveHeader s = .next t) : Inv t := by
  have hr (hd : Header) : Resolving { clearForResolve s with hdr := hd } := ⟨hi.src, rfl, rfl, rfl, rfl, rfl, hp⟩
  obtain rfl | ⟨hd, ⟨f, info, hf, rfl⟩ | ⟨hf, rfl⟩⟩ := resolveHeader_cases h
  · exact (hr {}).inv_malformed (by decide)
  · obtain ⟨rfl, hb⟩ | ⟨rfl, rfl, hb⟩ := headerFault_some hf
    · exact (hr hd).inv_malformed hb
    · exact (hr hd).inv_unsupported (by simp only [offendingCode, clearForResolve_ext, hb]; rfl)
  · have hr' : Resolving { clearForResolve s with hdr := hd, phase := .fourcc } := { hr hd with }
    exact hr'.inv ⟨hp, rfl, headerFault_none hf, rfl⟩

/-- At a dispatch register the unit resolves, and the register holds the offending code, should there be one. -/
theorem resolving_at_code {s : State} {w : Word} (hi : Inv s)
    (hw : (s.phase = .fourcc ∧ w = s.hdr.pfFourcc) ∨ (s.phase = .xfmt ∧ w = (s.ext.getD {}).format)) :
    Resolving s ∧ w = offendingCode s := by
  have hphase := hi.phase
  obtain ⟨hp, rfl⟩ | ⟨hp, rfl⟩ := hw
  · simp only [PhaseOk, hp] at hphase
    obtain ⟨hpad, hidle, hbit, hext⟩ := hphase
    exact ⟨resolving_of_inv hi hidle hpad, by simp [offendingCode, hext, hbit]⟩
  · simp only [PhaseOk, hp] at hphase
    obtain ⟨hpad, hidle, hext⟩ := hphase
    obtain ⟨x, hx⟩ := Option.isSome_iff_exists.1 hext
    exact ⟨resolving_of_inv hi hidle hpad, by simp [offendingCode, hx]⟩

/-- A dispatch code keeps the invariant (`46_resolver.md` R245, R246). -/
theorem RunsAsCode.inv {w : Word} {m : State → Result} (hm : RunsAsCode w m) {s t : State} (hi : Inv s)
    (hw : (s.phase = .fourcc ∧ w = s.hdr.pfFourcc) ∨ (s.phase = .xfmt ∧ w = (s.ext.getD {}).format))
    (h : m s = .next t) : Inv t := by
  obtain ⟨hr, hcode⟩ := resolving_at_code hi hw
  obtain ⟨f, payload, hf, rfl⟩ | rfl | rfl | ⟨x, rfl⟩ := hm.cases h
  · exact hr.inv_select hf payload
  · exact hr.inv_unsupported hcode
  · exact hr.inv_malformed (by decide)
  · have hr' : Resolving { s with ext := some x, phase := .xfmt } := { hr with }
    exact hr'.inv ⟨hr.pad, hr.idle, rfl⟩

theorem codeStep_inv {s t : State} (hi : Inv s) (h : codeStep s = .next t) : Inv t := by
  obtain rfl | ⟨w, m, hm, ht, hw⟩ := codeStep_cases h
  · exact hi
  · exact hm.inv hi hw ht

/-! ### Commands -/

/-- A reset unit meets the invariant (`70_reset_and_hazards.md` R290). -/
theorem inv_resetUnit {s : State} (h : Memory.wf s.src) : Inv (resetUnit s) := by
  have hr : Resolving (resetUnit s) := ⟨h, rfl, rfl, rfl, rfl, rfl, rfl⟩
  exact hr.inv rfl

/-- A command keeps the invariant. -/
theorem exec_cmd_inv {i : Instr} {s t : State} (hc : i.stream = .cmd) (hi : Inv s) (hp : s.phase = .waiting)
    (h : exec i s = .next t) : Inv t := by
  cases i <;> simp only [Instr.stream, reduceCtorEq] at hc
  case cmdResolve =>
    obtain ⟨u, v, hu, hv, ht⟩ := execCmdResolve_cases h
    exact codeStep_inv (codeStep_inv (resolveHeader_inv hi ((phaseOk_waiting hp).1 hi.phase) hu) hv) ht
  case cmdLevel =>
    simp only [exec, execCmdLevel] at h
    split at h
    · obtain rfl : s = t := by simpa using h
      exact hi
    · rename_i hgo
      have hr : s.unit = .ready := by
        by_contra hne
        exact hgo (.inl hne)
      exact ((working_of_inv hi hr).levelBody (by decide) h).1
  case cmdChain =>
    simp only [exec, execCmdChain] at h
    split at h
    · obtain rfl : s = t := by simpa using h
      exact hi
    · rename_i hr
      exact (working_of_inv hi (by simpa using hr)).chainLoop_inv hi h
  case cmdReset =>
    obtain rfl : resetUnit s = t := by simpa [exec, execCmdReset] using h
    exact inv_resetUnit hi.src
  all_goals
    obtain rfl : s = t := by simpa [exec, execCmdNop, execCmdRsv5, execCmdRsv6, execCmdRsv7] using h
    exact hi

/-! ### Host writes -/

/-- Between commands, the host's queue, CMD, SRC and SRC_LEN may change: a canonical SRC is all the invariant asks. -/
theorem inv_host_fields {s : State} (hi : Inv s) (hp : s.phase = .waiting) {src : List Host.Cell} (hsrc : Memory.wf src)
    (len : Nat) (rest : List HostAction) (c : BitVec 3) :
    Inv { s with src := src, srcLen := len, host := rest, cmd := c } :=
  { hi with src := hsrc, phase := (phaseOk_waiting (by exact hp)).2 ((phaseOk_waiting hp).1 hi.phase) }

/-- A host write keeps the invariant (`46_resolver.md` R255). -/
theorem hostAct_inv {a : HostAction} {s t : State} (hi : Inv s) (hp : s.phase = .waiting) (h : hostAct a s = .next t) :
    Inv t := by
  obtain ⟨addr, bs, rfl⟩ | ⟨n, rfl⟩ | rfl | ⟨hr, off, w, l, k, rfl⟩ := hostAct_cases h
  · exact inv_host_fields hi hp (Memory.wf_writeBytes bs hi.src addr) s.srcLen s.host s.cmd
  · exact inv_host_fields hi hp hi.src n s.host s.cmd
  · exact hi
  · have hw : Working { s with srcOff := off, lw := w, lh := l, level := k } := { working_of_inv hi hr with }
    exact hw.inv ((phaseOk_waiting (by exact hp)).2 ((phaseOk_waiting hp).1 hi.phase))

/-! ### A block and the walk after it -/

theorem mipDim_ne_zero (w : Word) (k : Nat) : mipDim w k ≠ 0 := by
  unfold mipDim
  split
  · decide
  · assumption

/-- A level number inside the chain fits LEVEL (`46_resolver.md` R250). -/
theorem setLevel_inside {k : Nat} {s : State} (h : k < chainLength s) : (setLevel k s).level.toNat < chainLength s := by
  rw [setLevel_level, BitVec.toNat_ofNat]
  exact lt_of_le_of_lt (Nat.mod_le k _) h

/-- Inside a level or a chain the walk stands at a block, and a chain has levels left. -/
theorem walk_of_inv {s : State} (hi : Inv s) (hp : s.phase = .level ∨ s.phase = .chain) :
    WalkOk s ∧ (s.phase = .chain → s.level.toNat < chainLength s) := by
  obtain hp | hp := hp
  · exact ⟨(phaseOk_level hp).1 hi.phase, fun hc => by simp [hp] at hc⟩
  · exact ⟨((phaseOk_chain hp).1 hi.phase).1, fun _ => ((phaseOk_chain hp).1 hi.phase).2⟩

/-- A block and what retires it keep the invariant (`41_block_iteration.md` R114). -/
theorem block_retire_inv {i : Instr} {s u v t : State} (hi : Inv s) (hp : s.phase = .level ∨ s.phase = .chain)
    (hf : fetchBlock s = .ok (i, u)) (hv : execInner i u = .next v) (h : retire s.phase v = .next t) : Inv t := by
  obtain ⟨hwalk, hchain⟩ := walk_of_inv hi hp
  obtain ⟨p, q, e, x, hpad, hq, -, hveq⟩ := fetched_block_frame hf hv
  have hwork : Working (advanceBlock v) := by
    rw [hveq]
    exact ((working_of_inv hi hwalk.ready).block (some q) _ e x).advanceBlock
  obtain ⟨hl, hc, -⟩ | ⟨-, ⟨hb, rfl⟩ | ⟨w, hw, hend⟩⟩ := retire_cases h
  · exact absurd hp (not_or.2 ⟨hl, hc⟩)
  · have hnext := walkOk_advanceBlock hwalk hpad hq e x hveq hb
    refine hwork.inv ?_
    obtain hp | hp := hp
    · exact (phaseOk_level (by simp [hveq, hp])).2 hnext
    · exact (phaseOk_chain (by simp [hveq, hp])).2 ⟨hnext, by simpa [hveq, chainLength] using hchain hp⟩
  · obtain ⟨hwork', hphase⟩ := hwork.levelFinish hw
    obtain ⟨-, hk, ht⟩ | rfl := hend
    · exact (hwork'.setLevel _).levelStart_inv (mipDim_ne_zero _ _) (mipDim_ne_zero _ _) (.inr ⟨rfl, setLevel_inside hk⟩) ht
    · exact hwork'.inv hphase

/-! ### A step -/

/-- Outside a level nothing retires an instruction. -/
theorem retire_outside_level {p : Phase} {s t : State} (hl : p ≠ .level) (hc : p ≠ .chain) (h : retire p s = .next t) :
    t = s := by
  obtain ⟨-, -, rfl⟩ | ⟨hp, -⟩ := retire_cases h
  · rfl
  · exact absurd hp (not_or.2 ⟨hl, hc⟩)

/-- Settles O50: by what the step fetched, a host write, a command, a dispatch code, or a block with the walk after it. -/
theorem stepKeepsTheInvariant : Obligations.StepKeepsTheInvariant := by
  intro s t hi h
  obtain ⟨-, rfl⟩ | ⟨a, u, hf, ha⟩ | ⟨i, u, v, hf, hv, hr⟩ := step_cases h
  · exact hi
  · obtain ⟨hp, rest, rfl⟩ := fetch_action hf
    exact hostAct_inv (inv_host_fields hi hp hi.src s.srcLen rest s.cmd) hp ha
  · obtain ⟨hp, hc, rest, c, rfl⟩ | ⟨hp, rfl, rfl⟩ | ⟨hp, rfl, rfl⟩ | ⟨hp, hb⟩ := fetch_instr hf
    · obtain rfl := retire_outside_level (by simp [hp]) (by simp [hp]) hr
      exact exec_cmd_inv hc (inv_host_fields hi hp hi.src s.srcLen rest c) hp hv
    · obtain rfl := retire_outside_level (by simp [hp]) (by simp [hp]) hr
      rw [exec_eq_execInner (by simp [(decodeFourcc_word _).1])] at hv
      exact (decodeFourcc_runs _).inv hi (.inl ⟨hp, rfl⟩) hv
    · obtain rfl := retire_outside_level (by simp [hp]) (by simp [hp]) hr
      rw [exec_eq_execInner (by simp [(decodeXfmt_word _).1])] at hv
      exact (decodeXfmt_runs _).inv hi (.inr ⟨hp, rfl⟩) hv
    · obtain ⟨-, hst, -⟩ := fetchBlock_frame hb
      rw [exec_eq_execInner (by simp [hst])] at hv
      exact block_retire_inv hi hp hb hv hr

/-- Under the invariant FMT is a codec exactly in READY or after a TRUNCATED_STREAM (`10_state.md` R30, `60_exceptions.md`
R270). -/
theorem fmt_iff_of_inv {s : State} (h : Inv s) : s.fmt ≠ .none ↔ s.unit = .ready ∨ s.fault = .truncatedStream := by
  have hfault := h.fault
  constructor
  · intro hf
    cases hu : s.unit with
    | idle => exact absurd (h.idle hu).1 hf
    | ready => exact .inl rfl
    | faulted =>
      have hne := h.faulted.1 hu
      cases hc : s.fault with
      | none => exact absurd hc hne
      | malformedContainer =>
        simp only [FaultOk, hc] at hfault
        exact absurd hfault.2.2 hf
      | unsupportedFormat =>
        simp only [FaultOk, hc] at hfault
        exact absurd hfault.2 hf
      | truncatedStream => exact .inr rfl
  · rintro (hu | hc)
    · exact h.ready hu
    · simp only [FaultOk, hc] at hfault
      exact hfault.2

/-- Settles O59: the state after the step meets the invariant. -/
theorem fmtHoldsACodecExactly : Obligations.FmtHoldsACodecExactly :=
  fun s t hi h => fmt_iff_of_inv (stepKeepsTheInvariant s t hi h)

end Sys2Proof.Proofs
end

section
/-! ## A command is a function of what is visible

Two runs side by side. Inside a level they agree on everything but CMD, the scratch and the host's queue (twins); inside RESOLVE
also but for PAD and the sequencer (peers); between commands on the visible part alone. -/

namespace Sys2Proof.Proofs

open Sys2Proof.Machine Sys2Proof.Safety Sys2Proof.Claims

/-! ### Two runs -/

/-- Where the first run answers, the second does, with a related state. -/
def Tracks (R : State → State → Prop) (o o' : Result) : Prop := ∀ t, o = .next t → ∃ v, o' = .next v ∧ R t v

theorem tracks_next {R : State → State → Prop} {t v : State} (h : R t v) : Tracks R (.next t) (.next v) := by
  rintro w ⟨⟩
  exact ⟨v, rfl, h⟩

theorem tracks_fault (R : State → State → Prop) (r : Fault) (o : Result) : Tracks R (.fault r) o := by
  intro t ht
  cases ht

/-- Two runs that branch alike. -/
theorem tracks_ite {R : State → State → Prop} {c : Prop} [Decidable c] {a b a' b' : Result} (ha : Tracks R a a')
    (hb : Tracks R b b') : Tracks R (if c then a else b) (if c then a' else b') := by
  split
  · exact ha
  · exact hb

theorem Tracks.mono {R Q : State → State → Prop} {o o' : Result} (h : Tracks R o o') (hq : ∀ t v, R t v → Q t v) :
    Tracks Q o o' := fun t ht =>
  let ⟨v, hv, hr⟩ := h t ht
  ⟨v, hv, hq t v hr⟩

theorem Tracks.andThen {R Q : State → State → Prop} {o o' : Result} {f g : State → Result} (h : Tracks R o o')
    (hfg : ∀ t v, R t v → Tracks Q (f t) (g v)) : Tracks Q (andThen o f) (andThen o' g) := by
  intro w hw
  obtain ⟨t, rfl, ht⟩ := andThen_eq_next.1 hw
  obtain ⟨v, rfl, hr⟩ := h t rfl
  exact hfg t v hr w ht

/-! ### Relations between the runs -/

/-- The same state but for CMD, the scratch and the host's queue. -/
def Twin (s u : State) : Prop := ∃ c x h, u = { s with cmd := c, scratch := x, host := h }

/-- The same state but for CMD, the scratch, the host's queue, PAD and the sequencer. -/
def Peer (s u : State) : Prop := ∃ p c q x h, u = { s with pad := p, cmd := c, seq := q, scratch := x, host := h }

/-- The same visible part. -/
def SameVisible (s u : State) : Prop := visible s = visible u

theorem Twin.sameVisible {s u : State} (h : Twin s u) : SameVisible s u := by
  obtain ⟨c, x, h, rfl⟩ := h
  rfl

theorem Peer.sameVisible {s u : State} (h : Peer s u) : SameVisible s u := by
  obtain ⟨p, c, q, x, h, rfl⟩ := h
  rfl

theorem Peer.registers {s u : State} (h : Peer s u) : u.phase = s.phase ∧ u.hdr = s.hdr ∧ u.ext = s.ext := by
  obtain ⟨p, c, q, x, h, rfl⟩ := h
  exact ⟨rfl, rfl, rfl⟩

/-- What the visible part leaves open. -/
theorem SameVisible.exists_eq {s u : State} (h : SameVisible s u) :
    ∃ p c q x ph hs, u = { s with pad := p, cmd := c, seq := q, scratch := x, phase := ph, host := hs } := by
  refine ⟨u.pad, u.cmd, u.seq, u.scratch, u.phase, u.host, ?_⟩
  cases s
  cases u
  simp only [SameVisible, visible, Visible.mk.injEq] at h
  simp [h]

/-! ### Blocks -/

/-- The end of a block reads no scratch. -/
theorem finishBlock_twin (f : Fmt) (b : Tile) {s u : State} (h : Twin s u) :
    Tracks Twin (finishBlock f b s) (finishBlock f b u) := by
  obtain ⟨c, x, hs, rfl⟩ := h
  intro t ht
  obtain ⟨p, q, hp, hq, rfl⟩ := finishBlock_cases ht
  refine ⟨{ s with pad := some q, srcOff := s.srcOff + blockBytes f, blkErr := s.blkErr || b.err, cmd := c,
                   scratch := { x with px := b.px }, host := hs }, ?_, c, _, hs, rfl⟩
  simp [finishBlock, hp, hq, stickyBlkErr]

/-- A block reads no scratch: its tile is a function of its operands. -/
theorem execInner_block_twin {i : Instr} {f : Fmt} (hi : i.stream = .block f) {s u : State} (h : Twin s u) :
    Tracks Twin (execInner i s) (execInner i u) := by
  obtain ⟨b, -, hm⟩ := execInner_runsAsBlock hi
  obtain ⟨x, -, hx⟩ := hm s
  obtain ⟨y, -, hy⟩ := hm u
  obtain ⟨c, z, hs, rfl⟩ := h
  rw [hx, hy]
  exact finishBlock_twin f b ⟨c, y, hs, rfl⟩

/-- Twins fetch the same block. -/
theorem fetchBlock_twin {s u t : State} {i : Instr} (h : Twin s u) (hf : fetchBlock s = .ok (i, t)) :
    ∃ v, fetchBlock u = .ok (i, v) ∧ Twin t v := by
  obtain ⟨c, x, hs, rfl⟩ := h
  obtain ⟨hfmt, hfit, hd, rfl⟩ := fetchBlock_cases hf
  obtain ⟨j, v, hv⟩ := fetchBlock_ok (s := { s with cmd := c, scratch := x, host := hs }) hfmt hfit
  obtain ⟨-, -, hj, rfl⟩ := fetchBlock_cases hv
  obtain rfl : i = j := by
    rw [hd] at hj
    cases hj
    rfl
  exact ⟨_, hv, c, _, hs, rfl⟩

theorem Twin.advanceBlock {s u : State} (h : Twin s u) : Twin (advanceBlock s) (advanceBlock u) := by
  obtain ⟨c, x, hs, rfl⟩ := h
  refine ⟨c, x, hs, ?_⟩
  unfold Machine.advanceBlock
  dsimp only
  split <;> rfl

theorem blockStep_twin {s u : State} (h : Twin s u) : Tracks Twin (blockStep s) (blockStep u) := by
  intro t ht
  obtain ⟨i, s₁, t₁, hf, ht₁, rfl⟩ := blockStep_cases ht
  obtain ⟨-, hi, -⟩ := fetchBlock_frame hf
  obtain ⟨u₁, hu, h₁⟩ := fetchBlock_twin h hf
  obtain ⟨v₁, hv₁, h₂⟩ := execInner_block_twin hi h₁ t₁ ht₁
  exact ⟨advanceBlock v₁, by simp [blockStep, hu, hv₁], h₂.advanceBlock⟩

theorem runBlocks_twin {n : Nat} {s u : State} (h : Twin s u) : Tracks Twin (runBlocks n s) (runBlocks n u) := by
  induction n generalizing s u with
  | zero => exact tracks_next h
  | succ n ih => exact (blockStep_twin h).andThen fun _ _ => ih

/-! ### Levels and chains -/

theorem levelFinish_twin {s u : State} (h : Twin s u) : Tracks Twin (levelFinish s) (levelFinish u) := by
  obtain ⟨c, x, hs, rfl⟩ := h
  intro t ht
  obtain ⟨p, hp, hl, rfl⟩ := levelFinish_cases ht
  exact ⟨_, by simp only [levelFinish, hp, hl, if_true], c, x, hs, rfl⟩

/-- A level sets its grid, PAD and walk itself: it starts in twins, or stops in both runs. -/
def Started (t v : State) : Prop :=
  (t.phase = .waiting ∧ v.phase = .waiting ∧ SameVisible t v) ∨ (t.phase ≠ .waiting ∧ Twin t v)

theorem levelStart_tracks {p : Phase} (hp : p ≠ .waiting) {s u : State} (h : SameVisible s u) :
    Tracks Started (levelStart p s) (levelStart p u) := by
  obtain ⟨pad, c, q, x, ph, hs, rfl⟩ := h.exists_eq
  have htr : levelTruncated (setGrid { s with pad := pad, cmd := c, seq := q, scratch := x, phase := ph, host := hs }) =
      levelTruncated (setGrid s) := rfl
  simp only [levelStart, htr]
  refine tracks_ite (tracks_fault _ _ _) (tracks_ite (tracks_next ?_) (tracks_next ?_))
  · exact .inl ⟨rfl, rfl, rfl⟩
  · exact .inr ⟨hp, c, x, hs, rfl⟩

theorem levelBody_tracks {p : Phase} (hp : p ≠ .waiting) {s u : State} (h : SameVisible s u) :
    Tracks SameVisible (levelBody p s) (levelBody p u) := by
  refine (levelStart_tracks hp h).andThen fun t v htv => ?_
  obtain ⟨ht, hv, hsame⟩ | ⟨ht, htwin⟩ := htv
  · rw [if_pos ht, if_pos hv]
    exact tracks_next hsame
  · have hblocks : Tracks Twin (andThen (runBlocks (t.seq.bwide * t.seq.bhigh) t) levelFinish)
        (andThen (runBlocks (t.seq.bwide * t.seq.bhigh) v) levelFinish) :=
      (runBlocks_twin htwin).andThen fun _ _ => levelFinish_twin
    obtain ⟨c, x, hs, rfl⟩ := htwin
    rw [if_neg ht, if_neg ht]
    exact hblocks.mono fun _ _ => Twin.sameVisible

theorem SameVisible.setLevel {s u : State} (h : SameVisible s u) (k : Nat) : SameVisible (setLevel k s) (setLevel k u) := by
  obtain ⟨p, c, q, x, ph, hs, rfl⟩ := h.exists_eq
  rfl

theorem chainLoop_tracks {n k : Nat} {s u : State} (h : SameVisible s u) :
    Tracks SameVisible (chainLoop n k s) (chainLoop n k u) := by
  induction n generalizing k s u with
  | zero => exact tracks_next h
  | succ n ih =>
    refine (levelBody_tracks (by decide) (h.setLevel k)).andThen fun t v htv => ?_
    have hunit : t.unit = v.unit := congrArg Visible.unit htv
    rw [← hunit]
    exact tracks_ite (tracks_next htv) (ih htv)

/-! ### The resolver -/

theorem srcWord_congr {s u : State} (hsrc : s.src = u.src) (hlen : s.srcLen = u.srcLen) (off : Nat) :
    srcWord s off = srcWord u off := by
  simp only [srcWord, memRead, hsrc, hlen]

theorem loadHeader_congr {s u : State} (hsrc : s.src = u.src) (hlen : s.srcLen = u.srcLen) :
    loadHeader s = loadHeader u := by
  simp only [loadHeader, srcWord_congr hsrc hlen]

theorem loadExtHeader_congr {s u : State} (hsrc : s.src = u.src) (hlen : s.srcLen = u.srcLen) :
    loadExtHeader s = loadExtHeader u := by
  simp only [loadExtHeader, srcWord_congr hsrc hlen]

theorem resolveHeader_tracks {s u : State} (h : SameVisible s u) : Tracks Peer (resolveHeader s) (resolveHeader u) := by
  obtain ⟨p, c, q, x, ph, hs, rfl⟩ := h.exists_eq
  have hload : loadHeader (clearForResolve
      { s with pad := p, cmd := c, seq := q, scratch := x, phase := ph, host := hs }) = loadHeader (clearForResolve s) :=
    loadHeader_congr rfl rfl
  simp only [resolveHeader, clearForResolve_srcLen, hload]
  refine tracks_ite (tracks_next ?_) ?_
  · exact ⟨none, c, q, x, hs, rfl⟩
  · cases loadHeader (clearForResolve s) with
    | none => exact tracks_fault _ _ _
    | some hd =>
      dsimp only
      cases headerFault hd with
      | none => exact tracks_next ⟨p, c, q, x, hs, rfl⟩
      | some r => exact tracks_next ⟨none, c, q, x, hs, rfl⟩

theorem parseExtHeader_tracks {s u : State} (h : Peer s u) : Tracks Peer (parseExtHeader s) (parseExtHeader u) := by
  obtain ⟨p, c, q, x, hs, rfl⟩ := h
  have hload : loadExtHeader { s with pad := p, cmd := c, seq := q, scratch := x, host := hs } = loadExtHeader s :=
    loadExtHeader_congr rfl rfl
  simp only [parseExtHeader, hload]
  refine tracks_ite (tracks_next ?_) ?_
  · exact ⟨none, c, q, x, hs, rfl⟩
  · cases loadExtHeader s with
    | none => exact tracks_fault _ _ _
    | some e => exact tracks_next ⟨p, c, q, x, hs, rfl⟩

theorem RunsAsCode.tracks {w : Word} {m : State → Result} (hm : RunsAsCode w m) {s u : State} (h : Peer s u) :
    Tracks Peer (m s) (m u) := by
  cases hm with
  | select f payload _ e =>
    obtain ⟨p, c, q, x, hs, rfl⟩ := h
    rw [e, e]
    exact tracks_next ⟨p, c, q, x, hs, rfl⟩
  | unsupported e =>
    obtain ⟨p, c, q, x, hs, rfl⟩ := h
    rw [e, e]
    exact tracks_next ⟨none, c, q, x, hs, rfl⟩
  | extended e =>
    rw [e, e]
    exact parseExtHeader_tracks h

theorem codeStep_tracks {s u : State} (h : Peer s u) : Tracks Peer (codeStep s) (codeStep u) := by
  obtain ⟨hphase, hhdr, hext⟩ := h.registers
  simp only [codeStep, hphase, hhdr, hext]
  cases s.phase with
  | fourcc => exact (decodeFourcc_runs _).tracks h
  | xfmt => exact (decodeXfmt_runs _).tracks h
  | waiting => exact tracks_next h
  | level => exact tracks_next h
  | chain => exact tracks_next h

/-! ### Commands -/

/-- Every command tracks the visible part. -/
theorem exec_cmd_tracks {i : Instr} (hi : i.stream = .cmd) {s u : State} (h : SameVisible s u) :
    Tracks SameVisible (exec i s) (exec i u) := by
  have hunit : s.unit = u.unit := congrArg Visible.unit h
  cases i <;> simp only [Instr.stream, reduceCtorEq] at hi
  case cmdResolve =>
    have hrun : Tracks Peer (execCmdResolve s) (execCmdResolve u) :=
      ((resolveHeader_tracks h).andThen fun _ _ => codeStep_tracks).andThen fun _ _ => codeStep_tracks
    exact hrun.mono fun _ _ => Peer.sameVisible
  case cmdLevel =>
    have hw : s.lw = u.lw := congrArg Visible.lw h
    have hh : s.lh = u.lh := congrArg Visible.lh h
    simp only [exec, execCmdLevel, hunit, hw, hh]
    exact tracks_ite (tracks_next h) (levelBody_tracks (by decide) h)
  case cmdChain =>
    have hlen : chainLength s = chainLength u := congrArg (fun x : Visible => max 1 x.hdr.mips.toNat) h
    simp only [exec, execCmdChain, hunit, hlen]
    exact tracks_ite (tracks_next h) (chainLoop_tracks h)
  case cmdReset =>
    obtain ⟨p, c, q, x, ph, hs, rfl⟩ := h.exists_eq
    exact tracks_next rfl
  all_goals exact tracks_next h

/-- Settles O56: the two runs of the command side by side. -/
theorem commandsSeeNoHiddenState : Obligations.CommandsSeeNoHiddenState := by
  intro i s u t hi h ht
  obtain ⟨v, hv, hsame⟩ := exec_cmd_tracks hi h t ht
  exact ⟨v, hv, hsame.symm⟩

end Sys2Proof.Proofs
end

section
/-! ## Encoding and decoding are inverse

A block is a row of bit fields: a concatenation stands in a word exactly when its low field is cut out there and the rest stands
behind it. Read one way this gives the operands of an encoded block back, read the other way the bits of a decoded one. -/

namespace Sys2Proof.Proofs

open Sys2Proof.Machine

/-! ### Bit fields -/

/-- `x` is what stands in `b` from bit `s` upward. -/
def StandsAt {w n : Nat} (b : BitVec w) (s : Nat) (x : BitVec n) : Prop := b.toNat / 2 ^ s = x.toNat

/-- What stands in a word from bit 0 is the whole word. -/
theorem toNat_eq_iff_standsAt {w n : Nat} {b : BitVec w} {x : BitVec n} : x.toNat = b.toNat ↔ StandsAt b 0 x := by
  simp [StandsAt, eq_comm]

/-- A concatenation stands where its low field is cut out and its high field stands behind it. -/
theorem standsAt_append {w n k : Nat} {b : BitVec w} {s : Nat} {hi : BitVec n} {lo : BitVec k} :
    StandsAt b s (hi ++ lo) ↔ StandsAt b (s + k) hi ∧ b.extractLsb' s k = lo := by
  have happ : (hi ++ lo).toNat = 2 ^ k * hi.toNat + lo.toNat := by
    rw [BitVec.toNat_append, Nat.shiftLeft_eq, Nat.mul_comm, Nat.two_pow_add_eq_or_of_lt lo.isLt]
  simp only [StandsAt, happ, ← BitVec.toNat_inj, BitVec.extractLsb'_toNat, Nat.shiftRight_eq_div_pow, pow_add,
    ← Nat.div_div_eq_div_mul]
  constructor
  · intro h
    rw [h, Nat.mul_add_div (by positivity), Nat.mul_add_mod, Nat.div_eq_of_lt lo.isLt, Nat.mod_eq_of_lt lo.isLt]
    exact ⟨rfl, rfl⟩
  · rintro ⟨hhi, hlo⟩
    rw [← hhi, ← hlo, Nat.div_add_mod]

/-- The highest field of a word is all that stands there. -/
theorem standsAt_top {w n s : Nat} {b : BitVec w} {x : BitVec n} (h : s + n = w) :
    StandsAt b s x ↔ b.extractLsb' s n = x := by
  have hlt : b.toNat / 2 ^ s < 2 ^ n := by
    rw [Nat.div_lt_iff_lt_mul (by positivity), ← pow_add, Nat.add_comm, h]
    exact b.isLt
  rw [StandsAt, ← BitVec.toNat_inj, BitVec.extractLsb'_toNat, Nat.shiftRight_eq_div_pow, Nat.mod_eq_of_lt hlt]

/-- The lowest field of a word, as a number. -/
theorem extractLsb'_zero_eq_iff {w k : Nat} {b : BitVec w} {t : BitVec k} :
    b.extractLsb' 0 k = t ↔ b.toNat % 2 ^ k = t.toNat := by
  rw [← BitVec.toNat_inj, BitVec.extractLsb'_toNat, Nat.shiftRight_zero]

/-- A tag's low bits are the word's. -/
theorem extractLsb'_zero_of_le {w n k : Nat} {b : BitVec w} {tag : BitVec n} (h : b.extractLsb' 0 n = tag) (hk : k ≤ n) :
    b.extractLsb' 0 k = tag.extractLsb' 0 k := by
  rw [extractLsb'_zero_eq_iff] at h ⊢
  rw [BitVec.extractLsb'_toNat, Nat.shiftRight_zero, ← h, Nat.mod_mod_of_dvd _ (pow_dvd_pow 2 hk)]

/-- A word is its tag and the field above it. -/
theorem toNat_field_tag {w k n : Nat} {b : BitVec w} {tag : BitVec k} (hw : k + n = w) (h : b.extractLsb' 0 k = tag) :
    (b.extractLsb' k n ++ tag).toNat = b.toNat := by
  rw [toNat_eq_iff_standsAt, standsAt_append, Nat.zero_add, standsAt_top hw]
  exact ⟨rfl, h⟩

/-- A word is its tag and the two fields above it. -/
theorem toNat_fields_tag {w k n m : Nat} {b : BitVec w} {tag : BitVec k} (hw : k + n + m = w) (h : b.extractLsb' 0 k = tag) :
    (b.extractLsb' (k + n) m ++ b.extractLsb' k n ++ tag).toNat = b.toNat := by
  rw [toNat_eq_iff_standsAt, standsAt_append, standsAt_append, Nat.zero_add, standsAt_top hw]
  exact ⟨⟨rfl, rfl⟩, h⟩

/-! ### The operands of an encoded block -/

/-- A word of BC6H splits into the operands it was encoded from: its tag alone says the mode (`30_encoding.md` R79, R80). -/
theorem splitBc6h_of_word {i : Instr} {b : BitVec 128} (hi : i.stream = .block .bc6h) (h : i.word = b.toNat) :
    splitBc6h b = i := by
  cases i <;> simp only [Instr.stream, Stream.block.injEq, reduceCtorEq] at hi
  all_goals
    simp only [Instr.word, asmBc6hM1, asmBc6hM2, asmBc6hM3, asmBc6hM4, asmBc6hM5, asmBc6hM6, asmBc6hM7, asmBc6hM8, asmBc6hM9,
      asmBc6hM10, asmBc6hM11, asmBc6hM12, asmBc6hM13, asmBc6hM14, asmBc6hRsv13, asmBc6hRsv17, asmBc6hRsv1B, asmBc6hRsv1F,
      toNat_eq_iff_standsAt, standsAt_append] at h
    obtain ⟨hfields, htag⟩ := h
    simp only [standsAt_top, Nat.reduceAdd] at hfields
    simp [splitBc6h, extractLsb'_zero_of_le htag, hfields]

/-- A word of BC7 splits into the operands it was encoded from (`30_encoding.md` R81, R82). -/
theorem splitBc7_of_word {i : Instr} {b : BitVec 128} (hi : i.stream = .block .bc7) (h : i.word = b.toNat) :
    splitBc7 b = i := by
  cases i <;> simp only [Instr.stream, Stream.block.injEq, reduceCtorEq] at hi
  all_goals
    simp only [Instr.word, asmBc7M0, asmBc7M1, asmBc7M2, asmBc7M3, asmBc7M4, asmBc7M5, asmBc7M6, asmBc7M7, asmBc7Rsv,
      toNat_eq_iff_standsAt, standsAt_append] at h
    obtain ⟨hfields, htag⟩ := h
    simp only [standsAt_top, Nat.reduceAdd] at hfields
    simp [splitBc7, extractLsb'_zero_of_le htag, hfields]

/-- The word of a block fits the block. -/
theorem word_lt_of_block {i : Instr} {f : Fmt} (hi : i.stream = .block f) : i.word < 256 ^ blockBytes f := by
  cases i <;> simp only [Instr.stream, Stream.block.injEq, reduceCtorEq] at hi
  all_goals subst hi
  case bc1 | bc4 | bc4s => exact Laws.word64_fits _
  all_goals exact Laws.word128_fits _

/-- A block decodes to the instruction it was encoded from (`30_encoding.md` R75-R82). -/
theorem decodeBlk_word {i : Instr} {f : Fmt} (hi : i.stream = .block f) : decodeBlk f i.word = .ok i := by
  have hword {w : Nat} (hw : 256 ^ blockBytes f = 2 ^ w) : i.word = (BitVec.ofNat w i.word).toNat := by
    rw [BitVec.toNat_ofNat, ← hw, Nat.mod_eq_of_lt (word_lt_of_block hi)]
  cases f
  case none => exact absurd hi i.stream_ne_none
  case bc6h => exact congrArg Except.ok (splitBc6h_of_word hi (hword rfl))
  case bc7 => exact congrArg Except.ok (splitBc7_of_word hi (hword rfl))
  case bc1 | bc4 | bc4s =>
    have h := hword (w := 64) rfl
    simp only [decodeBlk]
    generalize BitVec.ofNat 64 i.word = b at h ⊢
    cases i <;> simp only [Instr.stream, Stream.block.injEq, reduceCtorEq] at hi
    simp only [Instr.word, asmBc1, asmBc4, asmBc4s, toNat_eq_iff_standsAt, standsAt_append] at h
    simp only [standsAt_top, Nat.reduceAdd] at h
    simp [splitBc1, splitBc4, splitBc4s, h]
  case bc2 | bc3 | bc5 | bc5s =>
    have h := hword (w := 128) rfl
    simp only [decodeBlk]
    generalize BitVec.ofNat 128 i.word = b at h ⊢
    cases i <;> simp only [Instr.stream, Stream.block.injEq, reduceCtorEq] at hi
    simp only [Instr.word, asmBc2, asmBc3, asmBc5, asmBc5s, toNat_eq_iff_standsAt, standsAt_append] at h
    simp only [standsAt_top, Nat.reduceAdd] at h
    simp [splitBc2, splitBc3, splitBc5, splitBc5s, h]

/-! ### The word of a decoded block -/

/-- The word of a choice. -/
theorem word_ite {c : Prop} [Decidable c] {i j : Instr} {v : Nat} (hi : c → i.word = v) (hj : ¬c → j.word = v) :
    (if c then i else j).word = v := by
  split
  · exact hi ‹_›
  · exact hj ‹_›

/-- The word of a choice by the next bit of a unary tag: where the tag goes on, one more low bit is 0 (`30_encoding.md` R81). -/
theorem word_ite_unary {w k v : Nat} {b : BitVec w} {tag : BitVec (k + 1)} {i j : Instr} (htag : tag.toNat = 2 ^ k)
    (hlow : b.toNat % 2 ^ k = 0) (hi : b.extractLsb' 0 (k + 1) = tag → i.word = v)
    (hj : b.toNat % 2 ^ (k + 1) = 0 → j.word = v) : (if b.extractLsb' 0 (k + 1) = tag then i else j).word = v := by
  refine word_ite hi fun hne => hj ?_
  rw [extractLsb'_zero_eq_iff, htag] at hne
  rw [pow_succ, Nat.mod_mul, hlow] at hne ⊢
  rcases Nat.mod_two_eq_zero_or_one (b.toNat / 2 ^ k) with h | h
  · rw [h, Nat.mul_zero]
  · exact absurd (by rw [h, Nat.mul_one, Nat.zero_add]) hne

/-- Every word of BC6H is the word of what it splits into: the tags of the rows are all there are (`30_encoding.md` R80). -/
theorem word_splitBc6h (b : BitVec 128) : (splitBc6h b).word = b.toNat := by
  simp only [splitBc6h, extractLsb'_zero_eq_iff]
  iterate 14 refine word_ite (fun h => toNat_fields_tag rfl (extractLsb'_zero_eq_iff.2 h)) fun _ => ?_
  iterate 3 refine word_ite (fun h => toNat_field_tag rfl (extractLsb'_zero_eq_iff.2 h)) fun _ => ?_
  refine toNat_field_tag rfl (extractLsb'_zero_eq_iff.2 ?_)
  simp only [BitVec.toNat_ofNat, BitVec.ofNat_eq_ofNat] at *
  omega

/-- Every word of BC7 is the word of what it splits into. -/
theorem word_splitBc7 (b : BitVec 128) : (splitBc7 b).word = b.toNat := by
  unfold splitBc7
  have hlow : b.toNat % 2 ^ 0 = 0 := Nat.mod_one _
  iterate 8
    refine word_ite_unary rfl hlow (fun htag => ?_) fun hlow => ?_
    · simp only [Instr.word, asmBc7M0, asmBc7M1, asmBc7M2, asmBc7M3, asmBc7M4, asmBc7M5, asmBc7M6, asmBc7M7,
        toNat_eq_iff_standsAt, standsAt_append]
      simp only [standsAt_top, Nat.reduceAdd, true_and]
      exact htag
  exact toNat_field_tag rfl (extractLsb'_zero_eq_iff.2 hlow)

/-- A block is the word of the instruction it decodes to (`30_encoding.md` R75-R82). -/
theorem word_of_decodeBlk {f : Fmt} {v : Nat} {i : Instr} (hv : v < 256 ^ blockBytes f) (h : decodeBlk f v = .ok i) :
    i.word = v := by
  have hnat {w : Nat} (hw : 256 ^ blockBytes f = 2 ^ w) : (BitVec.ofNat w v).toNat = v := by
    rw [BitVec.toNat_ofNat, ← hw, Nat.mod_eq_of_lt hv]
  cases f <;> simp only [decodeBlk, Except.ok.injEq, reduceCtorEq] at h <;> subst h
  case bc6h => exact (word_splitBc6h _).trans (hnat rfl)
  case bc7 => exact (word_splitBc7 _).trans (hnat rfl)
  case bc1 | bc4 | bc4s =>
    refine Eq.trans ?_ (hnat (w := 64) rfl)
    simp only [splitBc1, splitBc4, splitBc4s, Instr.word, asmBc1, asmBc4, asmBc4s, toNat_eq_iff_standsAt, standsAt_append]
    simp only [standsAt_top, Nat.reduceAdd, and_self]
  case bc2 | bc3 | bc5 | bc5s =>
    refine Eq.trans ?_ (hnat (w := 128) rfl)
    simp only [splitBc2, splitBc3, splitBc5, splitBc5s, Instr.word, asmBc2, asmBc3, asmBc5, asmBc5s, toNat_eq_iff_standsAt,
      standsAt_append]
    simp only [standsAt_top, Nat.reduceAdd, and_self]

/-! ### Codes -/

/-- Only a default row can be ill-formed (`30_encoding.md` R73, R74). -/
theorem wellFormed_of_stream {i : Instr} (h₁ : i.stream ≠ .fourcc) (h₂ : i.stream ≠ .xfmt) : wellFormed i = true := by
  cases i <;> simp only [Instr.stream, ne_eq, not_true_eq_false] at h₁ h₂ <;> rfl

/-- A FourCC code decodes from its word (`30_encoding.md` R73). -/
theorem decodeFourcc_of_word {i : Instr} (hi : i.stream = .fourcc) (hw : wellFormed i = true) :
    decodeFourcc (BitVec.ofNat 32 i.word) = i := by
  cases i <;> simp only [Instr.stream, reduceCtorEq] at hi
  case fourccOther w => simp [decodeFourcc, Instr.word, Option.isNone_iff_eq_none.1 hw]
  all_goals rfl

/-- An enumerant decodes from its number (`30_encoding.md` R74). -/
theorem decodeXfmt_of_word {i : Instr} (hi : i.stream = .xfmt) (hw : wellFormed i = true) :
    decodeXfmt (BitVec.ofNat 32 i.word) = i := by
  cases i <;> simp only [Instr.stream, reduceCtorEq] at hi
  case xfmtOther w => simp [decodeXfmt, Instr.word, Option.isNone_iff_eq_none.1 hw]
  all_goals rfl

/-- A FourCC word takes the default row only if no other row has it (`30_encoding.md` R73). -/
theorem wellFormed_decodeFourcc (w : Word) : wellFormed (decodeFourcc w) = true := by
  have hrows : ∀ r ∈ fourccRows, wellFormed r.2 = true := by decide
  unfold decodeFourcc
  cases h : fourccRows.lookup w with
  | none => exact Option.isNone_iff_eq_none.2 h
  | some i => exact hrows _ (mem_of_lookup h)

/-- An enumerant takes the default row only if no other row has it (`30_encoding.md` R74). -/
theorem wellFormed_decodeXfmt (w : Word) : wellFormed (decodeXfmt w) = true := by
  have hrows : ∀ r ∈ xfmtRows, wellFormed r.2 = true := by decide
  unfold decodeXfmt
  cases h : xfmtRows.lookup w with
  | none => exact Option.isNone_iff_eq_none.2 h
  | some i => exact hrows _ (mem_of_lookup h)

/-- A command code is the word of its command (`10_state.md` R27). -/
theorem word_decodeCmd : ∀ c : BitVec 3, (decodeCmd c).word = c.toNat := by decide

/-! ### Words of any stream -/

/-- The word of an instruction fits its stream (`30_encoding.md` R70). -/
theorem word_lt (i : Instr) : i.word < 256 ^ i.stream.bytes := by
  cases hs : i.stream
  case block f => exact word_lt_of_block hs
  all_goals cases i <;> simp only [Instr.stream, reduceCtorEq] at hs
  case fourccOther w | xfmtOther w => exact Laws.word32_fits w
  all_goals decide

/-- A code whose word has the 32 bits of a number below `2^32` has that number as its word. -/
theorem word_eq_of_ofNat {i : Instr} {v : Nat} (hi : i.stream.bytes = 4) (hv : v < 2 ^ 32)
    (h : BitVec.ofNat 32 i.word = BitVec.ofNat 32 v) : i.word = v := by
  have hlt : i.word < 2 ^ 32 := by simpa [hi] using word_lt i
  have hmod := congrArg BitVec.toNat h
  rwa [BitVec.toNat_ofNat, BitVec.toNat_ofNat, Nat.mod_eq_of_lt hlt, Nat.mod_eq_of_lt hv] at hmod

/-- A word decodes to the well-formed instruction it was encoded from. -/
theorem decodeNat_word {i : Instr} (hw : wellFormed i = true) : decodeNat i.stream i.word = .ok i := by
  cases hs : i.stream
  case cmd => cases i <;> simp only [Instr.stream, reduceCtorEq] at hs <;> rfl
  case fourcc => exact congrArg Except.ok (decodeFourcc_of_word hs hw)
  case xfmt => exact congrArg Except.ok (decodeXfmt_of_word hs hw)
  case block f => exact decodeBlk_word hs

/-- A word of a stream is the word of the instruction it decodes to, a well-formed one of that stream. -/
theorem word_of_decodeNat {st : Stream} {v : Nat} {i : Instr} (hv : v < 256 ^ st.bytes) (hc : st = .cmd → v < 8)
    (h : decodeNat st v = .ok i) : i.stream = st ∧ wellFormed i = true ∧ i.word = v := by
  cases st <;> simp only [decodeNat, Except.ok.injEq] at h
  case cmd =>
    subst h
    have hs := decodeCmd_stream (BitVec.ofNat 3 v)
    refine ⟨hs, wellFormed_of_stream (by simp [hs]) (by simp [hs]), ?_⟩
    rw [word_decodeCmd, BitVec.toNat_ofNat, Nat.mod_eq_of_lt (hc rfl)]
  case fourcc =>
    subst h
    obtain ⟨hs, hword⟩ := decodeFourcc_word (BitVec.ofNat 32 v)
    exact ⟨hs, wellFormed_decodeFourcc _, word_eq_of_ofNat (by rw [hs]; rfl) hv hword⟩
  case xfmt =>
    subst h
    obtain ⟨hs, hword⟩ := decodeXfmt_word (BitVec.ofNat 32 v)
    exact ⟨hs, wellFormed_decodeXfmt _, word_eq_of_ofNat (by rw [hs]; rfl) hv hword⟩
  case block f =>
    have hs := decodeBlk_stream h
    exact ⟨hs, wellFormed_of_stream (by simp [hs]) (by simp [hs]), word_of_decodeBlk hv h⟩

/-- Every word of a stream that holds instructions decodes. -/
theorem decodeNat_ok {st : Stream} (h : st ≠ .block .none) (v : Nat) : ∃ i, decodeNat st v = .ok i := by
  cases st
  case block f => exact decodeBlk_ok (fun hf => h (hf ▸ rfl)) v
  all_goals exact ⟨_, rfl⟩

/-- Bytes that decode with none left over are one word of the stream. -/
theorem decode_nil_cases {st : Stream} {bs : List Byte} {i : Instr} (h : decode st bs = .ok (i, [])) :
    bs.length = st.bytes ∧ decodeNat st (leNat bs) = .ok i := by
  unfold decode at h
  split at h
  · cases h
  · split at h
    · rename_i j hj
      simp only [Except.ok.injEq, Prod.mk.injEq, List.drop_eq_nil_iff] at h
      obtain ⟨rfl, hlen⟩ := h
      rw [List.take_of_length_le hlen] at hj
      exact ⟨by omega, hj⟩
    · cases h

/-- Settles O1: the encoder writes the word, the decoder reads as many bytes, and the word decodes to its instruction. -/
theorem decodeReturnsEncodedInstruction : Obligations.DecodeReturnsEncodedInstruction := by
  intro i rest hw
  have hlen : ¬(encode i ++ rest).length < i.stream.bytes := by simp
  have hword : leNat (encode i) = i.word := by rw [encode, leNat_leBytes, Nat.mod_eq_of_lt (word_lt i)]
  rw [decode, if_neg hlen, List.take_left' (encode_length i), List.drop_left' (encode_length i), hword, decodeNat_word hw]

/-- Settles O2: the bytes are those of a word, and the word is the one of the instruction it decodes to. -/
theorem encodeReturnsDecodedWord : Obligations.EncodeReturnsDecodedWord := by
  intro st bs hst hlen hcmd
  obtain ⟨i, hi⟩ := decodeNat_ok hst (leNat bs)
  obtain ⟨rfl, hwf, hword⟩ := word_of_decodeNat (hlen ▸ leNat_lt bs) hcmd hi
  exact ⟨i, decode_exact hlen hi, rfl, hwf, by rw [encode, hword, ← hlen, leBytes_leNat]⟩

end Sys2Proof.Proofs
end

section
/-! ## The mode field is the opcode row's

Byte 0 of a block is the low byte of its word, and the tag of the word is the row's match under the row's mask. -/

namespace Sys2Proof.Proofs

open Sys2Proof.Machine Sys2Proof.Claims

/-! ### Byte 0 -/

/-- Byte 0 of a byte string is the low byte of its integer (`20_memory.md` R50). -/
theorem ofNat_leNat (bs : List Byte) : BitVec.ofNat 8 (leNat bs) = bs.getD 0 0 := by
  cases bs with
  | nil => rfl
  | cons b bs =>
    rw [← BitVec.toNat_inj, BitVec.toNat_ofNat, leNat, List.getD_cons_zero, Nat.add_mul_mod_self_left, Nat.mod_eq_of_lt b.isLt]

/-- Under the mask of a tag's bits, the low byte of a word is the tag. -/
theorem lowByte_and_mask {n k : Nat} (hk : k ≤ 8) (x : BitVec n) (tag : BitVec k) :
    BitVec.ofNat 8 (x ++ tag).toNat &&& (BitVec.allOnes k).setWidth 8 = tag.setWidth 8 := by
  have hlow : (x ++ tag).toNat % 2 ^ k = tag.toNat := extractLsb'_zero_eq_iff.1 BitVec.extractLsb'_append_eq_right
  have h8 : 2 ^ k ≤ 2 ^ 8 := Nat.pow_le_pow_right (by decide) hk
  have hpos : 0 < 2 ^ k := by positivity
  rw [← BitVec.toNat_inj, BitVec.toNat_and, BitVec.toNat_ofNat, BitVec.toNat_setWidth, BitVec.toNat_setWidth,
    BitVec.toNat_allOnes, Nat.mod_eq_of_lt (by omega : 2 ^ k - 1 < 2 ^ 8), Nat.and_two_pow_sub_one_eq_mod,
    Nat.mod_mod_of_dvd _ (pow_dvd_pow 2 hk), hlow, Nat.mod_eq_of_lt (tag.isLt.trans_le h8)]

/-- The tag of a BC6H word is the match of its instruction's row (`30_encoding.md` R80). -/
theorem row6_of_stream {i : Instr} (hi : i.stream = .block .bc6h) :
    ∃ mask m, row6 i = some (mask, m) ∧ BitVec.ofNat 8 i.word &&& mask = m := by
  cases i <;> simp only [Instr.stream, Stream.block.injEq, reduceCtorEq] at hi
  all_goals exact ⟨_, _, rfl, lowByte_and_mask (by decide) _ _⟩

/-- The tag of a BC7 word is the match of its instruction's row (`30_encoding.md` R81). -/
theorem row7_of_stream {i : Instr} (hi : i.stream = .block .bc7) :
    ∃ mask m, row7 i = some (mask, m) ∧ BitVec.ofNat 8 i.word &&& mask = m := by
  cases i <;> simp only [Instr.stream, Stream.block.injEq, reduceCtorEq] at hi
  all_goals exact ⟨_, _, rfl, lowByte_and_mask (by decide) _ _⟩

/-- A block is the word of the instruction it decodes to, and its byte 0 the word's low byte. -/
theorem lowByte_of_decode {f : Fmt} {bs : List Byte} {i : Instr} (h : decode (.block f) bs = .ok (i, [])) :
    bs.getD 0 0 = BitVec.ofNat 8 i.word := by
  obtain ⟨hlen, hi⟩ := decode_nil_cases h
  rw [word_of_decodeBlk (by simpa [hlen, Stream.bytes] using leNat_lt bs) hi, ofNat_leNat]

/-! ### No two rows overlap -/

/-- The rows of BC6H, mask and match (`30_encoding.md` R80). -/
def rows6 : List (Byte × Byte) :=
  [(0x03, 0x00), (0x03, 0x01), (0x1F, 0x02), (0x1F, 0x06), (0x1F, 0x0A), (0x1F, 0x0E), (0x1F, 0x12), (0x1F, 0x16),
   (0x1F, 0x1A), (0x1F, 0x1E), (0x1F, 0x03), (0x1F, 0x07), (0x1F, 0x0B), (0x1F, 0x0F), (0x1F, 0x13), (0x1F, 0x17),
   (0x1F, 0x1B), (0x1F, 0x1F)]

/-- The rows of BC7, mask and match (`30_encoding.md` R81). -/
def rows7 : List (Byte × Byte) :=
  [(0x01, 0x01), (0x03, 0x02), (0x07, 0x04), (0x0F, 0x08), (0x1F, 0x10), (0x3F, 0x20), (0x7F, 0x40), (0xFF, 0x80), (0xFF, 0x00)]

/-- Every row of `row6` is listed. -/
theorem mem_rows6 {i : Instr} {r : Byte × Byte} (h : row6 i = some r) : r ∈ rows6 := by
  cases i <;> simp only [row6, Option.some.injEq, reduceCtorEq] at h
  all_goals
    subst h
    decide

/-- Every row of `row7` is listed. -/
theorem mem_rows7 {i : Instr} {r : Byte × Byte} (h : row7 i = some r) : r ∈ rows7 := by
  cases i <;> simp only [row7, Option.some.injEq, reduceCtorEq] at h
  all_goals
    subst h
    decide

/-- Any two rows with the same match where both masks look are one row. -/
def rowsApart (rows : List (Byte × Byte)) : Bool :=
  rows.all fun p => rows.all fun q => p.2 &&& q.1 != q.2 &&& p.1 || p == q

/-- Of such rows one alone takes a byte: two that take it agree where both masks look. -/
theorem rowsApart.eq {rows : List (Byte × Byte)} (h : rowsApart rows = true) {p q : Byte × Byte} (hp : p ∈ rows)
    (hq : q ∈ rows) {x : Byte} (hxp : x &&& p.1 = p.2) (hxq : x &&& q.1 = q.2) : p = q := by
  have hagree : p.2 &&& q.1 = q.2 &&& p.1 := by
    rw [← hxp, ← hxq, BitVec.and_assoc, BitVec.and_assoc, BitVec.and_comm p.1 q.1]
  simpa [hagree] using List.all_eq_true.1 (List.all_eq_true.1 h p hp) q hq

theorem rowsApart_rows6 : rowsApart rows6 = true := by decide

theorem rowsApart_rows7 : rowsApart rows7 = true := by decide

/-- Settles O4: the tag of the word is the row's match, and the rows differ where their masks overlap. -/
theorem modeFieldSelectsInstruction : Obligations.ModeFieldSelectsInstruction := by
  refine ⟨fun bs i h => ?_, fun bs i h => ?_, fun i j x mi m mj n hi hj hm hn => ?_, fun i j x mi m mj n hi hj hm hn => ?_⟩
  · rw [lowByte_of_decode h]
    exact row6_of_stream (decode_block_stream h)
  · rw [lowByte_of_decode h]
    exact row7_of_stream (decode_block_stream h)
  · exact rowsApart.eq rowsApart_rows6 (mem_rows6 hi) (mem_rows6 hj) hm hn
  · exact rowsApart.eq rowsApart_rows7 (mem_rows7 hi) (mem_rows7 hj) hm hn

end Sys2Proof.Proofs
end

section
/-! ## Dispatch codes, and what a step runs

A code selects its codec or records itself; a step runs what its phase fetches, which is what the bytes there decode to. -/

namespace Sys2Proof.Proofs

open Sys2Proof.Machine

/-! ### Dispatch codes -/

/-- Settles O34: each arm selects its codec or records its word. -/
theorem fourccCodesComplete : Obligations.FourccCodesComplete := by
  intro s
  exact ⟨rfl, rfl, rfl, rfl, rfl, rfl, rfl, rfl, rfl, rfl, rfl, fun _ => rfl⟩

/-- Settles O36: each arm selects its codec or records its number. -/
theorem enumerantsComplete : Obligations.EnumerantsComplete := by
  intro s
  simp only [List.forall_mem_cons, List.not_mem_nil, false_imp_iff, implies_true, and_true]
  exact ⟨⟨rfl, rfl, rfl⟩, ⟨rfl, rfl, rfl⟩, ⟨rfl, rfl, rfl⟩, ⟨rfl, rfl⟩, rfl, ⟨rfl, rfl⟩, rfl, ⟨rfl, rfl⟩, ⟨rfl, rfl, rfl⟩,
    rfl, fun _ => rfl⟩

/-! ### Steps -/

/-- A step that fetches an instruction runs it and retires it. -/
theorem step_of_fetch {s t : State} {i : Instr} (h : fetch s = .ok (.instr i t)) :
    step s = andThen (exec i t) (retire s.phase) := by rw [step, h]

/-- Outside a level it adds nothing to the instruction (`41_block_iteration.md` R114). -/
theorem step_of_fetch_outside_level {s t : State} {i : Instr} (h : fetch s = .ok (.instr i t)) (hl : s.phase ≠ .level)
    (hc : s.phase ≠ .chain) : step s = andThen (exec i t) .next := by
  have hretire : retire s.phase = .next := by
    funext u
    rw [retire, if_neg (by simp [hl, hc])]
  rw [step_of_fetch h, hretire]

/-- The bytes of a 32-bit register decode as its word. -/
theorem decodeNat_of_decode_word {st : Stream} {w : Word} {i : Instr} (h : decode st (leBytes 4 w.toNat) = .ok (i, [])) :
    decodeNat st w.toNat = .ok i := by
  have hi := (decode_nil_cases h).2
  rwa [leNat_leBytes, Nat.mod_eq_of_lt (Laws.word32_fits w)] at hi

/-- A block inside SRC that decodes is fetched (`41_block_iteration.md` R115, R120). -/
theorem fetchBlock_of_decode {s : State} {i : Instr} (hlen : s.srcOff + blockBytes s.fmt ≤ s.srcLen)
    (h : decode (.block s.fmt) (Memory.readBytes s.src s.srcOff (blockBytes s.fmt)) = .ok (i, [])) :
    fetchBlock s = .ok (i, { s with scratch := { s.scratch with
      blk := Memory.readBytes s.src s.srcOff (blockBytes s.fmt) ++ s.scratch.blk.drop (blockBytes s.fmt), bitpos := 0 } }) := by
  have hf : s.fmt ≠ .none := fun hf => i.stream_ne_none (by rw [decode_block_stream h, hf])
  simp only [fetchBlock, if_neg hf, memRead_some hlen, h, overwrite, Memory.readBytes_length]

/-- Settles O47: by the phase, what the step fetches is what the bytes decode to. -/
theorem stepRunsTheDecodedInstruction : Obligations.StepRunsTheDecodedInstruction := by
  refine ⟨fun s v rest i hp hh hd => ?_, fun s i hp hd => ?_, fun s x i hp hx hd => ?_, fun s i hp hlen hd => ?_⟩
  · have hlow : BitVec.ofNat 3 (leNat [BitVec.ofNat 8 (v % 8)]) = BitVec.ofNat 3 v := by simp [leNat, ← BitVec.toNat_inj]
    have hcode : decodeCmd (BitVec.ofNat 3 v) = i := by simpa [decodeNat, hlow] using (decode_nil_cases hd).2
    exact step_of_fetch_outside_level (by simp [fetch, fetchAction, hp, hh, hcode]) (by simp [hp]) (by simp [hp])
  · have hcode : decodeFourcc s.hdr.pfFourcc = i := by simpa [decodeNat] using decodeNat_of_decode_word hd
    exact step_of_fetch_outside_level (by simp [fetch, hp, hcode]) (by simp [hp]) (by simp [hp])
  · have hcode : decodeXfmt x.format = i := by simpa [decodeNat] using decodeNat_of_decode_word hd
    exact step_of_fetch_outside_level (by simp [fetch, hp, hx, hcode]) (by simp [hp]) (by simp [hp])
  · have hblock := fetchBlock_of_decode hlen hd
    rcases hp with hp | hp
    · exact step_of_fetch (by simp [fetch, hp, hblock])
    · exact step_of_fetch (by simp [fetch, hp, hblock])

end Sys2Proof.Proofs
end

section
/-! ## The bit cursor

A block is read through its integer: a position is a bit of it, and a run of positions is one field of it, whether the bits are
added up one by one or cut out of two neighbouring bytes. -/

namespace Sys2Proof.Proofs

open Sys2Proof.Machine

/-! ### Bits -/

/-- Bit `p` of the integer of a byte string is bit `p mod 8` of byte `p div 8` (`20_memory.md` R50). -/
theorem testBit_leNat (bs : List Byte) (p : Nat) : (leNat bs).testBit p = (bs.getD (p / 8) 0).toNat.testBit (p % 8) := by
  induction bs generalizing p with
  | nil => simp [leNat]
  | cons b bs ih =>
    rw [leNat, Nat.add_comm, show 256 = 2 ^ 8 from rfl, Nat.testBit_two_pow_mul_add _ b.isLt]
    split
    · rw [Nat.div_eq_of_lt ‹p < 8›, Nat.mod_eq_of_lt ‹p < 8›, List.getD_cons_zero]
    · obtain ⟨q, rfl⟩ := Nat.exists_eq_add_of_le (Nat.le_of_not_lt ‹¬p < 8›)
      rw [ih, Nat.add_sub_cancel_left, Nat.add_div_left _ (by decide), Nat.add_mod_left, List.getD_cons_succ]

/-- The cursor's bit is the block integer's. -/
theorem bit_eq_getLsbD (c : Cursor) (p : Nat) : c.bit p = (c.blk.getLsbD p).toNat := (Nat.toNat_testBit _ _).symm

/-- Settles O5: bit `p` of the block's integer is the bit of the byte that holds it. -/
theorem bitPositionIsBitOfItsByte : Obligations.BitPositionIsBitOfItsByte := by
  intro bs pos p _ hp
  refine ⟨?_, bit_eq_getLsbD _ p⟩
  rw [bit_eq_getLsbD, BitVec.getLsbD_ofNat, decide_eq_true hp, Bool.true_and, testBit_leNat, Nat.toNat_testBit,
    Nat.shiftRight_eq_div_pow]

/-! ### Reads -/

/-- The next `n` bits, the first one least significant, add up to the field that stands there. -/
theorem sum_bits_eq_field (c : Cursor) (n : Nat) :
    ((List.range n).map fun k => c.bit (c.pos + k) * 2 ^ k).sum = c.blk.toNat / 2 ^ c.pos % 2 ^ n := by
  induction n with
  | zero => simp [Nat.mod_one]
  | succ n ih =>
    rw [List.sum_range_succ, ih, Nat.mod_pow_succ, Nat.div_div_eq_div_mul, ← pow_add, Nat.mul_comm, Cursor.bit]

/-- Two neighbouring bytes of a word are 16 bits of it. -/
theorem byte_pair_eq_field {w : Nat} (b : BitVec w) (s : Nat) :
    (b.extractLsb' s 8).toNat + 256 * (b.extractLsb' (s + 8) 8).toNat = b.toNat / 2 ^ s % 2 ^ 16 := by
  rw [BitVec.extractLsb'_toNat, BitVec.extractLsb'_toNat, Nat.shiftRight_eq_div_pow, Nat.shiftRight_eq_div_pow, pow_add,
    ← Nat.div_div_eq_div_mul, show 256 = 2 ^ 8 from rfl, show 2 ^ 16 = 2 ^ 8 * 2 ^ 8 from rfl, Nat.mod_mul]

/-- A field inside a field is a field of the whole. -/
theorem field_of_field {r n m : Nat} (h : r + n ≤ m) (x : Nat) : x % 2 ^ m / 2 ^ r % 2 ^ n = x / 2 ^ r % 2 ^ n := by
  obtain ⟨k, rfl⟩ := Nat.exists_eq_add_of_le h
  rw [Nat.add_assoc, pow_add 2 r, Nat.mod_mul_right_div_self, Nat.mod_mod_of_dvd _ (pow_dvd_pow 2 (Nat.le_add_right n k))]

/-- At most 8 bits from position `p` lie in the byte that holds `p` and the one after it. -/
theorem straddle_eq_field {w n : Nat} (hn : n ≤ 8) (b : BitVec w) (p : Nat) :
    ((b.extractLsb' (8 * (p / 8)) 8).toNat + 256 * (b.extractLsb' (8 * (p / 8) + 8) 8).toNat) >>> (p % 8) % 2 ^ n =
      b.toNat / 2 ^ p % 2 ^ n := by
  rw [byte_pair_eq_field, Nat.shiftRight_eq_div_pow, field_of_field (by omega), Nat.div_div_eq_div_mul, ← pow_add,
    Nat.div_add_mod]

/-- Settles O6: a read that fits takes the field at BITPOS, which is both the sum of its bits and the cut of the two bytes it
lies in. -/
theorem readBitsTakesTheNextBits : Obligations.ReadBitsTakesTheNextBits := by
  intro c n hn _
  refine ⟨?_, fun hpos => Cursor.readBits_overrun hpos.ne', fun _ hfit => ?_, rfl⟩
  · rintro rfl
    exact c.readBits_zero
  · have hread := Cursor.readBits_fits hfit
    exact ⟨_, hread, Cursor.readBits_lt hread, (sum_bits_eq_field c n).symm, (straddle_eq_field hn c.blk c.pos).symm⟩

end Sys2Proof.Proofs
end

section
/-! ## Levels and chains, block by block

A step inside a command is one block and the walk after it. The steps of a level are its blocks followed by its end, and the end
of a chain's level is the start of the next: induction over the blocks left, then over the levels left. -/

namespace Sys2Proof.Proofs

open Sys2Proof.Machine Sys2Proof.Claims

/-! ### The start of a level -/

/-- A level whose bytes are not all there stops before its first block (`41_block_iteration.md` R112). -/
theorem levelStart_of_short {p : Phase} {s : State} (hf : s.fmt ≠ .none)
    (h : s.srcLen < s.srcOff + levelSize (setGrid s)) :
    levelStart p s = .next (raise .truncatedStream s.level (setGrid s)) := by
  have ht : levelTruncated (setGrid s) = true := (levelTruncated_iff _).2 h
  simp only [levelStart, if_neg hf, ht, if_true]

/-- A level whose bytes are there starts at its first block, PAD allocated (`41_block_iteration.md` R113). -/
theorem levelStart_of_fits {p : Phase} {s : State} (hf : s.fmt ≠ .none)
    (h : s.srcOff + levelSize (setGrid s) ≤ s.srcLen) : levelStart p s = .next (allocPad p (setGrid s)) := by
  have ht : ¬levelTruncated (setGrid s) = true := fun ht => Nat.not_lt.2 h ((levelTruncated_iff _).1 ht)
  simp only [levelStart, if_neg hf, if_neg ht]

/-- A level whose bytes are there runs all its blocks, then ends (`41_block_iteration.md` R114). -/
theorem levelBody_of_fits {p : Phase} {s : State} (hp : p ≠ .waiting) (hf : s.fmt ≠ .none)
    (h : s.srcOff + levelSize (setGrid s) ≤ s.srcLen) :
    levelBody p s =
      andThen (runBlocks (blockCount s.lw.toNat s.lh.toNat) (allocPad p (setGrid s))) levelFinish := by
  rw [levelBody, levelStart_of_fits hf h, andThen_next, if_neg (by simpa using hp)]
  rfl

/-- LEVEL in READY with both dimensions there is a level (`46_resolver.md` R249). -/
theorem execCmdLevel_of_ready {s : State} (hr : s.unit = .ready) (hw : s.lw ≠ 0) (hh : s.lh ≠ 0) :
    execCmdLevel s = levelBody .level s := if_neg (by rintro (h | h | h) <;> contradiction)

/-- Settles O42: the size check comes before PAD and before any block. -/
theorem truncatedLevelFaults : Obligations.TruncatedLevelFaults := by
  intro s hr hf hw hh hshort
  change execCmdLevel s = _
  rw [execCmdLevel_of_ready hr hw hh, levelBody, levelStart_of_short hf hshort]
  rfl

/-! ### One block -/

/-- Two continuations that agree where they are reached. -/
theorem andThen_congr {o : Result} {f g : State → Result} (h : ∀ t, o = .next t → f t = g t) :
    andThen o f = andThen o g := by
  cases o with
  | next t => exact h t rfl
  | fault r => rfl
  | refused r => rfl

/-- Inside a level or a chain a step is a block, and the end of the level after its last (`41_block_iteration.md` R114). -/
theorem step_eq_blockStep {s : State} (hp : s.phase = .level ∨ s.phase = .chain) :
    step s = andThen (blockStep s) fun t => if t.seq.by_ < t.seq.bhigh then .next t else endLevel s.phase t := by
  cases hb : fetchBlock s with
  | error f =>
    have hfetch : fetch s = .error f := by obtain hp | hp := hp <;> simp only [fetch, hp, hb]
    simp only [step, blockStep, hfetch, hb, andThen_fault]
  | ok r =>
    obtain ⟨i, t⟩ := r
    have hfetch : fetch s = .ok (.instr i t) := by obtain hp | hp := hp <;> simp only [fetch, hp, hb]
    obtain ⟨-, hi, -⟩ := fetchBlock_frame hb
    rw [step_of_fetch hfetch, exec_eq_execInner (by simp [hi])]
    simp only [blockStep, hb, andThen_assoc, andThen_next]
    refine andThen_congr fun v _ => ?_
    rw [retire, if_pos hp]

/-- The walk changes the sequencer alone. -/
theorem advanceBlock_eq (s : State) : advanceBlock s = { s with seq := (advanceBlock s).seq } := by
  unfold advanceBlock
  dsimp only
  split <;> rfl

/-- What a block that answers leaves, with the walk after it (`41_block_iteration.md` R114, R115). -/
theorem blockStep_frame {s t : State} (h : blockStep s = .next t) :
    ∃ (pad : Option (List Byte)) (e : Bool) (x : Scratch),
      t = { s with pad := pad, srcOff := s.srcOff + blockBytes s.fmt, blkErr := e, scratch := x,
                   seq := (advanceBlock s).seq } := by
  obtain ⟨i, u, v, hf, hv, rfl⟩ := blockStep_cases h
  obtain ⟨p, q, e, x, -, -, -, rfl⟩ := fetched_block_frame hf hv
  refine ⟨some q, e, x, ?_⟩
  rw [advanceBlock_eq, advanceBlock_seq, advanceBlock_seq]

/-- What blocks that answer leave. -/
theorem runBlocks_frame {n : Nat} {s t : State} (h : runBlocks n s = .next t) :
    ∃ (pad : Option (List Byte)) (e : Bool) (x : Scratch) (q : Sequencer),
      t = { s with pad := pad, srcOff := s.srcOff + n * blockBytes s.fmt, blkErr := e, scratch := x, seq := q } := by
  induction n generalizing s with
  | zero =>
    obtain rfl : s = t := by simpa [runBlocks] using h
    exact ⟨s.pad, s.blkErr, s.scratch, s.seq, by simp⟩
  | succ n ih =>
    obtain ⟨u, hu, ht⟩ := andThen_eq_next.1 h
    obtain ⟨_, _, _, rfl⟩ := blockStep_frame hu
    obtain ⟨pad, e, x, q, rfl⟩ := ih ht
    exact ⟨pad, e, x, q, by simp [Nat.succ_mul, Nat.add_comm, Nat.add_assoc]⟩

/-! ### The steps of a level -/

/-- So many steps, in the model's own sequencing. -/
def runSteps : Nat → State → Result
  | 0, s => .next s
  | n + 1, s => andThen (step s) (runSteps n)

/-- The steps are the host's run of the machine. -/
theorem run_core (n : Nat) (s : State) : Host.Core.run core n s = runSteps n s := by
  induction n generalizing s with
  | zero => rfl
  | succ n ih =>
    simp only [Host.Core.run, runSteps]
    change _ = andThen (core.step s) (runSteps n)
    cases core.step s with
    | next t => exact ih t
    | fault r => rfl
    | refused r => rfl

theorem andThen_runSteps_zero (o : Result) : andThen o (runSteps 0) = o := by cases o <;> rfl

/-- After the last row no block is left. -/
theorem blocksLeft_of_done {s : State} (h : ¬s.seq.by_ < s.seq.bhigh) : Safety.blocksLeft s = 0 := by
  simp [Safety.blocksLeft, Nat.sub_eq_zero_of_le (Nat.le_of_not_lt h)]

/-- From a block of a level on, as many steps as blocks are left run those blocks and end the level, whether the blocks answer
or stop. -/
theorem runSteps_blocksLeft (m : Nat) {n : Nat} {s : State} (hp : s.phase = .level ∨ s.phase = .chain)
    (hx : s.seq.bx < s.seq.bwide) (hy : s.seq.by_ < s.seq.bhigh) (hn : Safety.blocksLeft s = n) :
    runSteps (n + m) s =
      andThen (andThen (runBlocks n s) (endLevel s.phase)) (runSteps m) := by
  induction n generalizing s with
  | zero => exact absurd hn (by rw [blocksLeft_advanceBlock hx hy]; omega)
  | succ n ih =>
    rw [Nat.succ_add, runSteps, step_eq_blockStep hp, runBlocks, andThen_assoc, andThen_assoc, andThen_assoc]
    refine andThen_congr fun t ht => ?_
    obtain ⟨_, _, _, ht⟩ := blockStep_frame ht
    have hseq : t.seq = (advanceBlock s).seq := by rw [ht]
    have hphase : t.phase = s.phase := by rw [ht]
    have hnext : Safety.blocksLeft t = n := by
      have := blocksLeft_advanceBlock hx hy
      simp only [Safety.blocksLeft, hseq] at this hn ⊢
      omega
    split
    · rename_i hrow
      have hcol : t.seq.bx < t.seq.bwide := by
        rw [hseq, advanceBlock_seq]
        split
        · assumption
        · exact Nat.zero_lt_of_lt hx
      rw [andThen_next, ih (hphase ▸ hp) hcol hrow hnext, andThen_assoc, hphase]
    · rename_i hrow
      rw [blocksLeft_of_done hrow] at hnext
      subst hnext
      rw [Nat.zero_add]
      rfl

/-- The blocks of a level that has just started. -/
theorem blocksLeft_allocPad (p : Phase) (s : State) :
    Safety.blocksLeft (allocPad p (setGrid s)) = blockCount s.lw.toNat s.lh.toNat := by
  simp [Safety.blocksLeft, blockCount, blocksAcross, Nat.mul_comm]

/-- From its first block on, the steps of a level are its blocks and its end. -/
theorem runSteps_level (m : Nat) {p : Phase} {s : State} (hp : p = .level ∨ p = .chain) (hw : s.lw ≠ 0) (hh : s.lh ≠ 0) :
    runSteps (blockCount s.lw.toNat s.lh.toNat + m) (allocPad p (setGrid s)) =
      andThen (andThen (runBlocks (blockCount s.lw.toNat s.lh.toNat) (allocPad p (setGrid s))) (endLevel p))
        (runSteps m) :=
  runSteps_blocksLeft m (s := allocPad p (setGrid s)) hp
    (blocksAcross_pos (by simpa [BitVec.toNat_eq] using hw)) (blocksAcross_pos (by simpa [BitVec.toNat_eq] using hh))
    (blocksLeft_allocPad p s)

/-- LEVEL has nothing after its end. -/
theorem endLevel_level : endLevel .level = levelFinish := by
  funext s
  cases h : levelFinish s <;> simp [endLevel, h]

/-! ### The levels of a chain -/

/-- A dimension of a level as a number (`46_resolver.md` R253). -/
theorem toNat_mipDim (w : Word) (k : Nat) : (mipDim w k).toNat = mipSize w k := by
  have hshift : (w >>> k).toNat = w.toNat / 2 ^ k := by rw [BitVec.toNat_ushiftRight, Nat.shiftRight_eq_div_pow]
  unfold mipDim mipSize
  split
  · rename_i h
    rw [← hshift, h]
    rfl
  · rename_i h
    have hpos : (w >>> k).toNat ≠ 0 := fun he => h (BitVec.eq_of_toNat_eq he)
    omega

/-- The first level apart from the others. -/
theorem offsetOf_succ (width : Nat → Nat) (n : Nat) :
    offsetOf width (n + 1) = width 0 + offsetOf (fun k => width (k + 1)) n := by
  simp [offsetOf, List.range_succ_eq_map, Function.comp_def]

/-- The bytes of level `k` of a chain (`41_block_iteration.md` R112). -/
theorem levelSize_setLevel (k : Nat) (s : State) :
    levelSize (setGrid (setLevel k s)) = chainBlocks s k * blockBytes s.fmt := by
  simp [levelSize, blocksAcross, chainBlocks, blockCount, toNat_mipDim]

/-- What level `k` of a chain leaves: LEVEL at `k`, SRCOFF past its bytes, STATE, FMT, the header and SRC_LEN as before. -/
structure LevelDone (k : Nat) (s t : State) : Prop where
  unit : t.unit = s.unit
  fmt : t.fmt = s.fmt
  hdr : t.hdr = s.hdr
  srcLen : t.srcLen = s.srcLen
  level : t.level = BitVec.ofNat 32 k
  srcOff : t.srcOff = s.srcOff + chainBlocks s k * blockBytes s.fmt

/-- The blocks of a level and its end leave the level done. -/
theorem levelDone_of_run {k : Nat} {s u t : State}
    (hu : runBlocks (chainBlocks s k) (allocPad .chain (setGrid (setLevel k s))) = .next u) (ht : levelFinish u = .next t) :
    LevelDone k s t := by
  obtain ⟨_, _, _, _, rfl⟩ := runBlocks_frame hu
  obtain ⟨_, -, -, rfl⟩ := levelFinish_cases ht
  exact ⟨rfl, rfl, rfl, rfl, rfl, rfl⟩

/-- The level number fits LEVEL, which a chain never outgrows (`46_resolver.md` R250). -/
theorem LevelDone.toNat_level {k : Nat} {s t : State} (h : LevelDone k s t) (hk : k < chainLength s) : t.level.toNat = k := by
  have hmips := s.hdr.mips.isLt
  rw [h.level, BitVec.toNat_ofNat, Nat.mod_eq_of_lt]
  unfold chainLength at hk
  omega

theorem LevelDone.chainLength {k : Nat} {s t : State} (h : LevelDone k s t) : chainLength t = chainLength s := by
  simp only [Machine.chainLength, h.hdr]

theorem LevelDone.chainBlocks {k : Nat} {s t : State} (h : LevelDone k s t) : chainBlocks t = chainBlocks s := by
  funext j
  simp only [Claims.chainBlocks, h.hdr]

/-- From the first block of level `k` of a chain on, the steps of that level and the `m` after them give the level followed by
whatever those `m` steps give from its end. -/
theorem runSteps_chain_level {m k : Nat} {s : State} {g : State → Result} (hf : s.fmt ≠ .none) (hk : k < chainLength s)
    (hfit : s.srcOff + chainBlocks s k * blockBytes s.fmt ≤ s.srcLen)
    (hg : ∀ t, LevelDone k s t →
      andThen (if k + 1 < chainLength s then levelStart .chain (setLevel (k + 1) t) else .next t) (runSteps m) = g t) :
    runSteps (chainBlocks s k + m) (allocPad .chain (setGrid (setLevel k s))) =
      andThen (levelBody .chain (setLevel k s)) g := by
  have hblocks : blockCount (setLevel k s).lw.toNat (setLevel k s).lh.toNat = chainBlocks s k := by
    simp only [setLevel_lw, setLevel_lh, toNat_mipDim, chainBlocks]
  have hrun := runSteps_level (s := setLevel k s) m (.inr rfl) (mipDim_ne_zero _ _) (mipDim_ne_zero _ _)
  have hlevel := levelBody_of_fits (p := .chain) (s := setLevel k s) (by decide) hf (levelSize_setLevel k s ▸ hfit)
  rw [hblocks] at hrun hlevel
  rw [hrun, hlevel, andThen_assoc, andThen_assoc]
  refine andThen_congr fun u hu => ?_
  rw [endLevel, andThen_assoc]
  refine andThen_congr fun t ht => ?_
  have hdone := levelDone_of_run hu ht
  rw [← hg t hdone, hdone.toNat_level hk, hdone.chainLength]
  simp only [true_and]

/-- From the first block of level `k` on, the steps of the `n + 1` last levels of a chain give what CHAIN gives for them. -/
theorem runSteps_chain {n k : Nat} {s : State} (hr : s.unit = .ready) (hf : s.fmt ≠ .none)
    (hlast : k + n + 1 = chainLength s)
    (hfit : s.srcOff + offsetOf (fun j => chainBlocks s (k + j) * blockBytes s.fmt) (n + 1) ≤ s.srcLen) :
    runSteps (offsetOf (fun j => chainBlocks s (k + j)) (n + 1)) (allocPad .chain (setGrid (setLevel k s))) =
      chainLoop (n + 1) k s := by
  induction n generalizing k s with
  | zero =>
    simp only [offsetOf_succ, Nat.add_zero] at hfit ⊢
    refine runSteps_chain_level hf (by omega) (by omega) fun t ht => ?_
    rw [if_neg (by omega), if_neg (by simp [ht.unit, hr])]
    rfl
  | succ n ih =>
    rw [offsetOf_succ, Nat.add_zero] at hfit ⊢
    refine runSteps_chain_level hf (by omega) (by omega) fun t ht => ?_
    have hrest : (fun j => chainBlocks s (k + (j + 1))) = fun j => chainBlocks t (k + 1 + j) := by
      funext j
      rw [ht.chainBlocks, Nat.add_right_comm, Nat.add_assoc]
    have hbytes : (fun j => chainBlocks s (k + (j + 1)) * blockBytes s.fmt) =
        fun j => chainBlocks t (k + 1 + j) * blockBytes t.fmt := by
      funext j
      rw [congrFun hrest j, ht.fmt]
    rw [hbytes] at hfit
    have hfit' : t.srcOff + offsetOf (fun j => chainBlocks t (k + 1 + j) * blockBytes t.fmt) (n + 1) ≤ t.srcLen := by
      rw [ht.srcOff, ht.srcLen, Nat.add_assoc]
      exact hfit
    have hnext : t.srcOff + levelSize (setGrid (setLevel (k + 1) t)) ≤ t.srcLen := by
      rw [levelSize_setLevel]
      simp only [offsetOf_succ, Nat.add_zero] at hfit'
      omega
    rw [if_pos (by omega), if_neg (by simp [ht.unit, hr]),
      levelStart_of_fits (s := setLevel (k + 1) t) (by simpa [ht.fmt] using hf) hnext, andThen_next, hrest]
    exact ih (ht.unit.trans hr) (by simpa [ht.fmt] using hf) (by rw [ht.chainLength]; omega) hfit'

/-- Settles O46: the steps of one level, and of all the levels of a chain. -/
theorem commandsAreTheirSteps : Obligations.CommandsAreTheirSteps := by
  refine ⟨fun s hr hf hw hh hfit => ?_, fun s hr hf hfit => ?_⟩
  · change _ = execCmdLevel s
    rw [execCmdLevel_of_ready hr hw hh, levelBody_of_fits (by decide) hf hfit, run_core]
    simpa only [Nat.add_zero, endLevel_level, andThen_runSteps_zero] using runSteps_level 0 (p := .level) (.inl rfl) hw hh
  · change _ = execCmdChain s
    obtain ⟨n, hn⟩ : ∃ n, chainLevels s = n + 1 := ⟨chainLevels s - 1, by unfold chainLevels; omega⟩
    have hlast : chainLength s = n + 1 := hn
    rw [hn] at hfit
    rw [run_core, execCmdChain, if_neg (by simp [hr]), hn, hlast]
    simpa only [Nat.zero_add] using
      runSteps_chain (k := 0) hr hf (by omega) (by simpa only [chainOffset, Nat.zero_add] using hfit)

end Sys2Proof.Proofs
end

section
/-! ## Every block stores a full tile of its own

No read of a real mode passes bit 127: its fields and its indices, one bit less for every fix-up pixel, take 128 bits. So a
block ends in a block error exactly if it is reserved, its tile is full, and the tile is a function of the operands. -/

namespace Sys2Proof.Proofs

open Sys2Proof.Machine Sys2Proof.Claims

/-! ### Index widths -/

/-- A width narrowed by one bit at some places. -/
theorem offsetOf_narrowed {w : Nat} (hw : 0 < w) (P : Nat → Prop) [DecidablePred P] (n : Nat) :
    offsetOf (fun i => if P i then w - 1 else w) n + offsetOf (fun i => if P i then 1 else 0) n = n * w := by
  have hsum : ∀ i, (if P i then w - 1 else w) + (if P i then 1 else 0) = w := by
    intro i
    split <;> omega
  simp only [offsetOf, ← List.sum_map_add, hsum]
  simp

/-- Counting the places in a list without repetition. -/
theorem offsetOf_mem {l : List Nat} {n : Nat} (hl : l.Nodup) (hn : ∀ x ∈ l, x < n) :
    offsetOf (fun i => if i ∈ l then 1 else 0) n = l.length := by
  calc offsetOf (fun i => if i ∈ l then 1 else 0) n
      = ∑ i ∈ Finset.range n, if i ∈ l then 1 else 0 := rfl
    _ = ((Finset.range n).filter (· ∈ l)).card := (Finset.card_filter _ _).symm
    _ = l.toFinset.card := by
      congr 1
      ext i
      simpa using hn i
    _ = l.length := List.toFinset_card_of_nodup hl

/-- The fix-up pixels are different pixels of the tile, one per region (`45_shared_tables.md` R224). -/
theorem fixPixels_nodup {n s : Nat} (hn : n = 1 ∨ n = 2 ∨ n = 3) (hs : s < 64) :
    (fixPixels n s).Nodup ∧ (∀ i ∈ fixPixels n s, i < 16) ∧ (fixPixels n s).length = n := by
  have h₂ : ∀ s < 64, 0 < fixA2.getD s 0 ∧ fixA2.getD s 0 < 16 := by decide
  have h₃ : ∀ s < 64, 0 < fixA3a.getD s 0 ∧ fixA3a.getD s 0 < 16 ∧ 0 < fixA3b.getD s 0 ∧ fixA3b.getD s 0 < 16 ∧
      fixA3a.getD s 0 ≠ fixA3b.getD s 0 := by decide
  obtain rfl | rfl | rfl := hn
  · simp [fixPixels]
  · have ha := h₂ s hs
    rw [show fixPixels 2 s = [0, fixA2.getD s 0] from rfl]
    generalize fixA2.getD s 0 = a at ha
    simp
    omega
  · have hab := h₃ s hs
    rw [show fixPixels 3 s = [0, fixA3a.getD s 0, fixA3b.getD s 0] from rfl]
    generalize fixA3a.getD s 0 = a, fixA3b.getD s 0 = b at hab
    simp
    omega

/-- The indices of a tile: one width at every pixel, one bit less at the fix-up pixels (`43_bc6h.md` R168, `44_bc7.md` R197). -/
theorem indexBits {n s w : Nat} (hn : n = 1 ∨ n = 2 ∨ n = 3) (hs : s < 64) (hw : 0 < w) :
    offsetOf (fun i => if isFixup n s i = true then w - 1 else w) 16 + n = 16 * w := by
  obtain ⟨hnodup, hlt, hlen⟩ := fixPixels_nodup hn hs
  have hcount := offsetOf_mem hnodup hlt
  have hsum := offsetOf_narrowed hw (· ∈ fixPixels n s) 16
  simp only [isFixup, decide_eq_true_eq]
  omega

/-! ### Full tiles -/

/-- A full tile of a codec: sixteen pixels of all its channels; `e` says whether it ended in a block error. -/
structure FullTile (f : Fmt) (e : Bool) (u : Tile) : Prop where
  px : u.px.length = 16
  channels : ∀ p ∈ u.px, p.length = outBytes f
  err : u.err = e

theorem fullTile_map {f : Fmt} {g : Nat → Pixel} (hg : ∀ i, (g i).length = outBytes f) :
    FullTile f false ⟨pixelNos.map g, false⟩ where
  px := rfl
  channels := List.forall_mem_map.2 fun i _ => hg i
  err := rfl

/-- A block error before the first pixel fills the whole tile (`60_exceptions.md` R274). -/
theorem fullTile_blockError {f : Fmt} (hf : outBytes f = 4) (c : Rgba Byte) : FullTile f true (blockError c []) where
  px := rfl
  channels p hp := by rw [List.eq_of_mem_replicate hp, hf]; rfl
  err := rfl

/-- A meaning stores one full tile, the same from every state, once the scratch is written. -/
def StoresTile (f : Fmt) (e : Bool) (m : State → Result) : Prop :=
  ∃ u, FullTile f e u ∧ ∀ s : State, ∃ x : Scratch, m s = finishBlock f u { s with scratch := x }

/-! ### BC6H -/

/-- A header inside the block is read to its end (`43_bc6h.md` R164). -/
theorem scatter_fits {layout : List (HdrField × Nat)} {n : Nat} {c : Cursor} (h : Fields6) (hn : c.pos + n ≤ 128) :
    ∃ h', scatter layout n c h = some (h', { c with pos := c.pos + n }) := by
  induction n generalizing c h with
  | zero => exact ⟨h, rfl⟩
  | succ n ih =>
    have hread : c.readBit = _ := Cursor.readBits_fits (n := 1) (by omega)
    simp only [scatter, hread]
    simpa only [Nat.add_assoc, Nat.add_comm 1 n] using ih (c := { c with pos := c.pos + 1 }) _ (by dsimp only; omega)

/-- A header bit keeps SHAPE within five bits when its layout does (`43_bc6h.md` R163, R164). -/
theorem setBit_shape_lt {h : Fields6} (hs : h.shape < 2 ^ 5) {p : HdrField × Nat} (hp : p.1 = .shape → p.2 < 5) :
    (h.setBit p).shape < 2 ^ 5 := by
  obtain ⟨f, k⟩ := p
  cases f with
  | shape =>
    have hk : 1 <<< k < 2 ^ 5 := by rw [Nat.one_shiftLeft]; exact Nat.pow_lt_pow_right (by decide) (hp rfl)
    exact Nat.or_lt_two_pow hs hk
  | mode => exact hs
  | unused => exact hs
  | ep e c => exact hs

theorem scatter_shape_lt {layout : List (HdrField × Nat)} (hl : ∀ p ∈ layout, p.1 = .shape → p.2 < 5) {n : Nat}
    {c c' : Cursor} {h h' : Fields6} (hs : h.shape < 2 ^ 5) (hr : scatter layout n c h = some (h', c')) :
    h'.shape < 2 ^ 5 := by
  induction n generalizing c h with
  | zero =>
    simp only [scatter, Option.some.injEq, Prod.mk.injEq] at hr
    exact hr.1 ▸ hs
  | succ n ih =>
    simp only [scatter] at hr
    split at hr
    · cases hr
    · refine ih ?_ hr
      split
      · refine setBit_shape_lt hs fun hp => ?_
        rcases Nat.lt_or_ge c.pos layout.length with hlt | hge
        · rw [List.getD_eq_getElem _ _ hlt] at hp ⊢
          exact hl _ (List.getElem_mem hlt) hp
        · rw [List.getD_eq_default _ _ hge] at hp
          cases hp
      · exact hs

/-- Indices that lie inside the block make a full tile: none is out of range, as each fits its width (`43_bc6h.md` R161,
R168). -/
theorem pixels6_fullTile (d : Mode6) (shape : Nat) (ep : Endpoints Nat) {n : Nat} (idx : Nat) {done : List Pixel} {c : Cursor}
    (hlen : done.length + n = 16) (hd : ∀ p ∈ done, p.length = 4)
    (hfit : c.pos + offsetOf (fun i => indexWidth6 d shape (done.length + i)) n ≤ 128) :
    FullTile .bc6h false (pixels6 d shape ep n idx done c).tile := by
  induction n generalizing idx done c with
  | zero => exact ⟨hlen, hd, rfl⟩
  | succ n ih =>
    rw [offsetOf_succ, Nat.add_zero] at hfit
    have hread := Cursor.readBits_fits (n := indexWidth6 d shape done.length) (c := c) (by omega)
    have hwidth : 2 ^ indexWidth6 d shape done.length ≤ 2 ^ d.ib := by
      refine Nat.pow_le_pow_right (by decide) ?_
      unfold indexWidth6
      split <;> omega
    have hrange := Nat.not_le.2 (lt_of_lt_of_le (Cursor.readBits_lt hread) hwidth)
    simp only [pixels6, hread, if_neg hrange]
    refine ih _ (by simp; omega) ?_ ?_
    · exact List.forall_mem_append.2 ⟨hd, List.forall_mem_singleton.2 rfl⟩
    · simpa [Nat.add_assoc, Nat.add_comm 1] using hfit

/-- Every mode of BC6H: header and indices take the whole block (`43_bc6h.md` R163, R168). -/
theorem modes6_fit : ∀ d ∈ modes6, d.modeBits ≤ d.hl ∧ (d.regions = 1 ∨ d.regions = 2) ∧ 0 < d.ib ∧
    d.hl + 16 * d.ib = 128 + d.regions := by decide

/-- SHAPE has five header bits (`43_bc6h.md` R163). -/
theorem modes6_shape : ∀ d ∈ modes6, ∀ p ∈ d.fieldBits, p.1 = .shape → p.2 < 5 := by decide

/-- A mode of BC6H stores a full tile without a block error (`43_bc6h.md` R169, R175). -/
theorem runBc6h_storesTile {d : Mode6} (hd : d ∈ modes6) (b : BitVec 128) : StoresTile .bc6h false (runBc6h d b) := by
  obtain ⟨hmode, hregions, hib, hbits⟩ := modes6_fit d hd
  obtain ⟨h, hs⟩ := scatter_fits (layout := d.fieldBits) (n := d.hl - d.modeBits) (c := ⟨b, d.modeBits⟩) Fields6.zero
    (by dsimp only; omega)
  simp only [Nat.add_sub_cancel' hmode] at hs
  have hshape := scatter_shape_lt (modes6_shape d hd) (by decide) hs
  have hindex : offsetOf (indexWidth6 d h.shape) 16 + d.regions = 16 * d.ib := indexBits (by omega) (by omega) hib
  refine ⟨(pixels6 d h.shape (absolute d h.ep) 16 0 [] ⟨b, d.hl⟩).tile,
    pixels6_fullTile d h.shape (absolute d h.ep) 0 rfl (List.forall_mem_nil _) ?_, fun s => ?_⟩
  · have hfit : d.hl + offsetOf (indexWidth6 d h.shape) 16 ≤ 128 := by omega
    simpa using hfit
  · simp only [runBc6h, hs]
    rw [pixels6_tile_idx d h.shape (absolute d h.ep) 16 0 s.scratch.bc6h.idx.toNat]
    exact ⟨_, rfl⟩

/-- A BC6H block in a valid mode runs that mode (`43_bc6h.md` R161). -/
theorem execInner_of_mode6 {i : Instr} {d : Mode6} (h : mode6Of i = some d) :
    d ∈ modes6 ∧ ∃ b, execInner i = runBc6h d b := by
  cases i <;> simp only [mode6Of, Option.some.injEq, reduceCtorEq] at h <;> subst h
  all_goals exact ⟨by simp [modes6], _, rfl⟩

theorem storesTile_of_mode6 {i : Instr} {d : Mode6} (h : mode6Of i = some d) : StoresTile .bc6h false (execInner i) := by
  obtain ⟨hd, b, hb⟩ := execInner_of_mode6 h
  exact hb ▸ runBc6h_storesTile hd b

/-- A reserved selector stores the error tile (`43_bc6h.md` R162). -/
theorem runReserved6_storesTile (sel : Nat) : StoresTile .bc6h true (runReserved6 sel) :=
  ⟨_, fullTile_blockError rfl _, fun _ => ⟨_, rfl⟩⟩

/-! ### BC7 -/

/-- A read that fits, and the reads after it. -/
theorem readBits_bind {α : Type} {n : Nat} {c : Cursor} {k : Nat × Cursor → Option α} (hn : c.pos + n ≤ 128)
    (hk : ∀ v < 2 ^ n, ∃ a, k (v, { c with pos := c.pos + n }) = some a) : ∃ a, (c.readBits n >>= k) = some a := by
  have hread := Cursor.readBits_fits hn
  simpa only [hread, Option.bind_eq_bind, Option.bind_some] using hk _ (Cursor.readBits_lt hread)

/-- Consecutive reads that fit, and the reads after them. -/
theorem readWidths_bind {α : Type} {ns : List Nat} {c : Cursor} {k : List Nat × Cursor → Option α}
    (hn : c.pos + ns.sum ≤ 128) (hk : ∀ vs, ∃ a, k (vs, { c with pos := c.pos + ns.sum }) = some a) :
    ∃ a, (c.readWidths ns >>= k) = some a := by
  simpa only [Cursor.readWidths_fits ns hn, Option.bind_eq_bind, Option.bind_some] using hk _

/-- Every mode of BC7: the fields take the whole block (`44_bc7.md` R191, R193, R197). -/
theorem modes7_bits : ∀ d ∈ modes7, (d.ns = 1 ∨ d.ns = 2 ∨ d.ns = 3) ∧ d.pbw ≤ 6 ∧ 0 < d.ib ∧
    d.m + 1 + d.pbw + d.rb + d.isb + d.ne * (d.prec.r + d.prec.g + d.prec.b + d.prec.a) + d.np + 16 * d.ib + 16 * d.ib2 =
      128 + d.ns + (if d.ib2 = 0 then 0 else 1) := by decide

/-- The secondary indices: one bit less at pixel 0 (`44_bc7.md` R197). -/
theorem secondaryBits (d : Mode7) : (secondaryWidths d).sum + (if d.ib2 = 0 then 0 else 1) = 16 * d.ib2 := by
  unfold secondaryWidths
  split
  · simp [*]
  · exact offsetOf_narrowed (Nat.pos_of_ne_zero ‹_›) (· = 0) 16

/-- No read of a mode of BC7 passes bit 127 (`44_bc7.md` R202). -/
theorem readFields7_fits {d : Mode7} (hd : d ∈ modes7) (b : BitVec 128) : ∃ f, readFields7 d ⟨b, d.m + 1⟩ = some f := by
  obtain ⟨hns, hpbw, hib, hbits⟩ := modes7_bits d hd
  have hsec := secondaryBits d
  have hprim : ∀ shape < 2 ^ d.pbw, (primaryWidths d shape).sum + d.ns = 16 * d.ib := fun shape hs =>
    indexBits hns (lt_of_lt_of_le hs (Nat.pow_le_pow_right (by decide) hpbw)) hib
  simp only [Nat.mul_add] at hbits
  refine readBits_bind (by dsimp only; omega) fun shape hshape => ?_
  have hshape := hprim shape hshape
  refine readBits_bind (by dsimp only; omega) fun rot _ => readBits_bind (by dsimp only; omega) fun isel _ =>
    readWidths_bind ?_ fun r => readWidths_bind ?_ fun g => readWidths_bind ?_ fun bl => readWidths_bind ?_ fun a =>
    readWidths_bind ?_ fun pb => readWidths_bind ?_ fun i1 => readWidths_bind ?_ fun i2 => ⟨_, rfl⟩
  all_goals
    simp only [List.sum_replicate, smul_eq_mul, Nat.mul_one]
    omega

/-- A mode of BC7 stores a full tile without a block error (`44_bc7.md` R201, R202). -/
theorem runBc7_storesTile {d : Mode7} (hd : d ∈ modes7) (b : BitVec 128) : StoresTile .bc7 false (runBc7 d b) := by
  obtain ⟨f, hf⟩ := readFields7_fits hd b
  refine ⟨⟨pixels7 d f, false⟩, fullTile_map fun _ => rfl, fun s => ?_⟩
  simp only [runBc7, hf]
  exact ⟨_, rfl⟩

/-- A BC7 block in a valid mode runs that mode (`44_bc7.md` R190). -/
theorem execInner_of_operands7 {i : Instr} {d : Mode7} {o : Operands7} (h : operands7 i = some (d, o)) :
    d ∈ modes7 ∧ ∃ b, execInner i = runBc7 d b := by
  cases i <;> simp only [operands7, Option.some.injEq, Prod.mk.injEq, reduceCtorEq] at h <;> obtain ⟨rfl, -⟩ := h
  all_goals exact ⟨by simp [modes7], _, rfl⟩

theorem storesTile_of_operands7 {i : Instr} {d : Mode7} {o : Operands7} (h : operands7 i = some (d, o)) :
    StoresTile .bc7 false (execInner i) := by
  obtain ⟨hd, b, hb⟩ := execInner_of_operands7 h
  exact hb ▸ runBc7_storesTile hd b

/-! ### Every codec -/

/-- Every block instruction stores a full tile, of a block error exactly if it is reserved (`60_exceptions.md` R274). -/
theorem execInner_storesTile {i : Instr} {f : Fmt} (hi : i.stream = .block f) : StoresTile f (isReserved i) (execInner i) := by
  cases i <;> simp only [Instr.stream, Stream.block.injEq, reduceCtorEq] at hi <;> subst hi
  case bc1 | bc2 | bc3 | bc4 | bc4s | bc5 | bc5s => exact ⟨_, fullTile_map fun _ => rfl, fun _ => ⟨_, rfl⟩⟩
  case bc6hRsv13 | bc6hRsv17 | bc6hRsv1B | bc6hRsv1F => exact runReserved6_storesTile _
  case bc7Rsv => exact ⟨_, fullTile_blockError rfl _, fun _ => ⟨_, rfl⟩⟩
  case bc7M0 | bc7M1 | bc7M2 | bc7M3 | bc7M4 | bc7M5 | bc7M6 | bc7M7 => exact storesTile_of_operands7 rfl
  all_goals exact storesTile_of_mode6 rfl

/-! ### The stores -/

/-- A number has one quotient and one remainder. -/
theorem digit_unique {m a b c e : Nat} (hc : c < m) (he : e < m) (h : c + m * a = e + m * b) : a = b ∧ c = e := by
  have hm := Nat.zero_lt_of_lt hc
  obtain ⟨hdiv, hmod⟩ := (Nat.div_mod_unique hm).2 ⟨rfl, hc⟩
  obtain ⟨hdiv', hmod'⟩ := (Nat.div_mod_unique hm).2 ⟨h.symm, he⟩
  exact ⟨hdiv.symm.trans hdiv', hmod.symm.trans hmod'⟩

/-- Two bytes of a tile are stored at two addresses when a row of PAD holds a tile (`41_block_iteration.md` R116). -/
theorem pixelAddr_inj {o stride obpp i j c e : Nat} (hstride : 4 ≤ stride) (hc : c < obpp) (he : e < obpp)
    (h : pixelAddr o stride obpp i c = pixelAddr o stride obpp j e) : i = j ∧ c = e := by
  have hbyte : c + obpp * (i % 4 + stride * (i / 4)) = e + obpp * (j % 4 + stride * (j / 4)) := by
    simp only [pixelAddr, Nat.mul_comm _ obpp, Nat.mul_comm _ stride, Nat.add_comm (stride * _)] at h
    omega
  obtain ⟨hpixel, hchan⟩ := digit_unique hc he hbyte
  obtain ⟨hy, hx⟩ := digit_unique (by omega) (by omega) hpixel
  exact ⟨by omega, hchan⟩

/-- No address of a tile is stored twice. -/
theorem tileWrites_nodup {o stride obpp : Nat} (hstride : 4 ≤ stride) (px : List Pixel) :
    ((tileWrites o stride obpp px).map Prod.fst).Nodup := by
  simp only [tileWrites, List.map_flatMap, List.map_map]
  refine List.nodup_flatMap.2 ⟨fun i _ => ?_, ?_⟩
  · refine List.Nodup.map_on (fun c hc e he h => ?_) List.nodup_range
    exact (pixelAddr_inj hstride (List.mem_range.1 hc) (List.mem_range.1 he) h).2
  · refine List.nodup_range.imp fun {i j} hne => ?_
    simp only [Function.onFun, List.disjoint_left, List.mem_map, List.mem_range]
    rintro a ⟨c, hc, rfl⟩ ⟨e, he, h⟩
    exact hne (pixelAddr_inj hstride hc he h.symm).1

/-- A tile that fits lies inside PAD with all its bytes. -/
theorem pixelAddr_lt {o stride obpp i c n : Nat} (hn : o + (3 * stride + 4) * obpp ≤ n) (hi : i < 16) (hc : c < obpp) :
    pixelAddr o stride obpp i c < n := by
  have hrow : i / 4 * stride ≤ 3 * stride := Nat.mul_le_mul_right _ (by omega)
  have hpixel : (i / 4 * stride + i % 4) * obpp ≤ (3 * stride + 3) * obpp := Nat.mul_le_mul_right _ (by omega)
  have hlast : (3 * stride + 4) * obpp = (3 * stride + 3) * obpp + obpp := by ring
  unfold pixelAddr
  omega

/-- A byte of a tile. -/
def tilePixel (u : Tile) (i c : Nat) : Byte := (u.px.getD i []).getD c 0

/-- The stores of a tile that answer leave it in PAD, and every other byte as before (`41_block_iteration.md` R116). -/
theorem stored_of_padWrites {f : Fmt} {u : Tile} {s t : State} {p q : List Byte} (hstride : 4 ≤ s.seq.stride)
    (hp : s.pad = some p) (hq : padWrites (tileWrites s.seq.outOff s.seq.stride (outBytes f) u.px) p = some q)
    (ht : t.pad = some q) : Stored f (tilePixel u) s t := by
  refine ⟨p, q, hp, ht, padWrites_length _ hq, fun i hi c hc => ?_, fun a ha => ?_⟩
  · exact padWrites_stored _ hq (mem_tileWrites.2 ⟨i, hi, c, hc, rfl⟩) (tileWrites_nodup hstride u.px)
  · refine padWrites_other _ hq fun w hw => ?_
    obtain ⟨i, hi, c, hc, rfl⟩ := mem_tileWrites.1 hw
    exact (ha i hi c hc).symm

/-- A full tile is its bytes by position. -/
theorem FullTile.eq_map {f : Fmt} {e : Bool} {u : Tile} (h : FullTile f e u) :
    u.px = (List.range 16).map fun i => (List.range (outBytes f)).map (tilePixel u i) := by
  refine List.ext_getElem (by simp [h.px]) fun i hi _ => ?_
  have hlen := h.channels _ (List.getElem_mem hi)
  refine List.ext_getElem (by simp [hlen]) fun c hc _ => ?_
  simp [tilePixel, hi, hc]

/-- The end of a block whose tile fits: it answers, and the block is done. -/
theorem finishBlock_done {f : Fmt} {e : Bool} {u : Tile} {s : State} (hu : FullTile f e u) (hfit : TileFits f s) (x : Scratch) :
    ∃ t, finishBlock f u { s with scratch := x } = .next t ∧ t.scratch.px = u.px ∧ BlockDone f e (tilePixel u) s t := by
  obtain ⟨hstride, p, hp, hroom⟩ := hfit
  obtain ⟨q, hq, hnext⟩ := finishBlock_next (f := f) (u := u) (s := { s with scratch := x }) hp
    fun i hi c hc => pixelAddr_lt hroom hi hc
  exact ⟨_, hnext, rfl, stored_of_padWrites hstride hp hq rfl, hu.eq_map, by rw [hu.err]⟩

/-! ### A tile is a function of its block's bytes -/

/-- A one-block level has room for its tile. -/
theorem tileFits_placeBlock (f : Fmt) (v : Nat) (s : State) : TileFits f (placeBlock f v s) :=
  ⟨Nat.le_refl 4, _, rfl, by simp [placeBlock]⟩

/-- The tile a block's bytes decode to is the tile the block stores from any state (`41_block_iteration.md` R121). -/
theorem tileOf_encode {i : Instr} {f : Fmt} (hi : i.stream = .block f) {e : Bool} {u : Tile} (hu : FullTile f e u)
    (hm : ∀ s : State, ∃ x : Scratch, execInner i s = finishBlock f u { s with scratch := x }) :
    tileOf f (encode i) = u.px := by
  have hdecode : decode (.block f) (encode i) = .ok (i, []) := by
    have hwf := wellFormed_of_stream (i := i) (by simp [hi]) (by simp [hi])
    simpa only [List.append_nil, hi] using decodeReturnsEncodedInstruction i [] hwf
  obtain ⟨x, hx⟩ := hm (placeBlock f 0 State.reset)
  obtain ⟨t, ht, hpx, -⟩ := finishBlock_done hu (tileFits_placeBlock f 0 State.reset) x
  rw [← hx, ← exec_eq_execInner (by simp [hi])] at ht
  simp only [tileOf, hdecode, ht, hpx]

/-- Settles O31: the block stores its full tile, which is also what its bytes decode to by themselves. -/
theorem everyBlockStoresItsOwnTile : Obligations.EveryBlockStoresItsOwnTile := by
  intro i f s hi hfit
  obtain ⟨u, hu, hm⟩ := execInner_storesTile hi
  obtain ⟨x, hx⟩ := hm s
  obtain ⟨t, ht, hpx, hdone⟩ := finishBlock_done hu hfit x
  have htile : tileByte f (encode i) = tilePixel u := by
    funext j c
    rw [tileByte, tileOf_encode hi hu hm, tilePixel]
  refine ⟨t, by rw [exec_eq_execInner (by simp [hi]), hx, ht], htile ▸ hdone, ?_, ?_⟩
  · rw [hpx, hu.px]
  · rw [hpx]
    exact hu.channels

end Sys2Proof.Proofs
end

section
/-! ## The fixed-gradient codecs

A palette of the model is its entries by number, and the index of a pixel is the field of its position. A block then stores the
entries its indices name, whatever the codec; what is left for each codec is its palette: the colours by R127 to R130, the
unsigned gradient by R133, the signed one by R147 with the integer form of R149. -/

namespace Sys2Proof.Proofs

open Sys2Proof.Machine Sys2Proof.Safety Sys2Proof.Claims

/-! ### Expansion of 5-6-5 words -/

/-- A 5-bit field expands to its entry of the table (`42_fixed_gradient.md` R128). -/
theorem exp5_eq_table : ∀ v < 32, exp5 v = exp5Table.getD v 0 := by decide

/-- The same for a 6-bit field. -/
theorem exp6_eq_table : ∀ v < 64, exp6 v = exp6Table.getD v 0 := by decide

/-- EXPAND565 of a word is the table entry of each of its fields. -/
theorem expand565_eq_rgbOf (c : BitVec 16) :
    config.expand565 c = ⟨BitVec.ofNat 8 (rgbOf c 0), BitVec.ofNat 8 (rgbOf c 1), BitVec.ofNat 8 (rgbOf c 2)⟩ := by
  have hr : (c.extractLsb' 11 5).toNat = c.toNat / 2 ^ 11 := by
    have := c.isLt
    rw [BitVec.extractLsb'_toNat, Nat.shiftRight_eq_div_pow, Nat.mod_eq_of_lt (by omega)]
  have hg : (c.extractLsb' 5 6).toNat = c.toNat / 2 ^ 5 % 2 ^ 6 := by
    rw [BitVec.extractLsb'_toNat, Nat.shiftRight_eq_div_pow]
  have hb : (c.extractLsb' 0 5).toNat = c.toNat % 2 ^ 5 := by
    rw [BitVec.extractLsb'_toNat, Nat.shiftRight_zero]
  have expand : config.expand565 c = ⟨BitVec.ofNat 8 (exp5 (c.extractLsb' 11 5).toNat),
      BitVec.ofNat 8 (exp6 (c.extractLsb' 5 6).toNat), BitVec.ofNat 8 (exp5 (c.extractLsb' 0 5).toNat)⟩ := rfl
  rw [expand, exp5_eq_table _ (BitVec.isLt _), exp6_eq_table _ (BitVec.isLt _), exp5_eq_table _ (BitVec.isLt _), hr, hg, hb]
  rfl

/-- Settles O7: the tables checked field by field, and the fields of the word. -/
theorem expand565GivesTheTables : Obligations.Expand565GivesTheTables :=
  ⟨exp5_eq_table, exp6_eq_table, expand565_eq_rgbOf⟩

/-- A table of bytes gives a byte at every position. -/
theorem getD_lt_256 {l : List Nat} (hl : ∀ v ∈ l, v < 256) (k : Nat) : l.getD k 0 < 256 := by
  rcases Nat.lt_or_ge k l.length with hk | hk
  · rw [List.getD_eq_getElem _ _ hk]
    exact hl _ (List.getElem_mem hk)
  · rw [List.getD_eq_default _ _ hk]
    decide

/-- A channel of a packed word expands to a byte. -/
theorem rgbOf_lt (c : BitVec 16) (ch : Nat) : rgbOf c ch < 256 := by
  unfold rgbOf
  split
  · exact getD_lt_256 (by decide) _
  · split <;> exact getD_lt_256 (by decide) _

/-! ### Colour palettes -/

/-- A weighted mean of two bytes is a byte (`42_fixed_gradient.md` R129, R130). -/
theorem toNat_mixByte {wa wb d : Nat} (hw : wa + wb = d) (hd : 0 < d) (a b : Byte) :
    (mixByte wa wb d a b).toNat = (wa * a.toNat + wb * b.toNat) / d := by
  have ha := Nat.mul_le_mul_left wa (Nat.le_of_lt_succ a.isLt)
  have hb := Nat.mul_le_mul_left wb (Nat.le_of_lt_succ b.isLt)
  have hlt : (wa * a.toNat + wb * b.toNat) / d < 2 ^ 8 := by
    rw [Nat.div_lt_iff_lt_mul hd]
    omega
  rw [mixByte, BitVec.toNat_ofNat, Nat.mod_eq_of_lt hlt]

/-- A weighted mean of two expanded channels. -/
theorem mixByte_rgbOf (wa wb d : Nat) (c0 c1 : BitVec 16) (ch : Nat) :
    mixByte wa wb d (BitVec.ofNat 8 (rgbOf c0 ch)) (BitVec.ofNat 8 (rgbOf c1 ch)) =
      BitVec.ofNat 8 ((wa * rgbOf c0 ch + wb * rgbOf c1 ch) / d) := by
  rw [mixByte, BitVec.toNat_ofNat, BitVec.toNat_ofNat, Nat.mod_eq_of_lt (rgbOf_lt c0 ch), Nat.mod_eq_of_lt (rgbOf_lt c1 ch)]

/-- The four-colour palette by entry and channel (`42_fixed_gradient.md` R129). -/
theorem fourColour_eq (c0 c1 : BitVec 16) : fourColour c0 c1 = colourRegs (fourEntry c0 c1) := by
  simp [fourColour, colourRegs, fourEntry, expand565_eq_rgbOf, opaquePixel, Rgb.map₂, mixByte_rgbOf, List.range_succ]

/-- The three-colour palette by entry and channel (`42_fixed_gradient.md` R130). -/
theorem threeColour_eq (c0 c1 : BitVec 16) : threeColour c0 c1 = colourRegs (threeEntry c0 c1) := by
  simp [threeColour, colourRegs, threeEntry, expand565_eq_rgbOf, opaquePixel, Rgb.map₂, mixByte_rgbOf, List.range_succ]

/-- The palette of BC1 by entry and channel (`42_fixed_gradient.md` R131). -/
theorem bc1Palette_eq (c0 c1 : BitVec 16) : bc1Palette c0 c1 = colourRegs (bc1Entry c0 c1) := by
  unfold bc1Palette
  split
  · rename_i h
    simp only [fourColour_eq, colourRegs, bc1Entry, if_pos h]
  · rename_i h
    simp only [threeColour_eq, colourRegs, bc1Entry, if_neg h]

/-! ### The unsigned gradient -/

/-- A palette of eight entries, written out. -/
theorem map_range_eight {α : Type} (p : Nat → α) : (List.range 8).map p = [p 0, p 1, p 2, p 3, p 4, p 5, p 6, p 7] := rfl

/-- `GRAD8U` by entry (`42_fixed_gradient.md` R133). -/
theorem grad8u_eq (e0 e1 : Byte) : grad8u e0 e1 = (List.range 8).map fun k => BitVec.ofNat 8 (gradU e0 e1 k) := by
  rw [map_range_eight]
  by_cases h : e1.toNat < e0.toNat <;> simp [grad8u, gradU, h]

/-! ### The signed gradient -/

/-- The reference the model keeps is the rule's (`42_fixed_gradient.md` R146). -/
theorem signedRef_eq_signedValue (e : Byte) : signedRef e = signedValue e := by
  have h : e.toInt = -128 ↔ e = 0x80 := by rw [← BitVec.toInt_inj]; rfl
  simp only [signedRef, signedValue, h]

/-- A reference lies in -127..127 (`42_fixed_gradient.md` R146). -/
theorem signedValue_bounds (e : Byte) : -127 ≤ signedValue e ∧ signedValue e ≤ 127 := by
  rw [← signedRef_eq_signedValue]
  have h : e.toInt < 128 := BitVec.toInt_lt
  obtain ⟨hlow, -⟩ := signedRef_bounds e
  refine ⟨hlow, ?_⟩
  unfold signedRef
  split <;> omega

/-- The exact rational form of R149 over a common denominator. -/
theorem rescaleQ_div (n : Int) {d : Nat} (hd : 0 < d) :
    rescaleQ ((n : ℚ) / d) = (510 * (n + 127 * d) + 254 * d) / (508 * d) := by
  have hd' : (d : ℚ) ≠ 0 := by exact_mod_cast hd.ne'
  have hfrac : ((n : ℚ) / d + 127) * (255 / 254) + 1 / 2 =
      ((510 * (n + 127 * d) + 254 * d : Int) : ℚ) / ((508 * d : Nat) : ℚ) := by
    push_cast
    field_simp
    ring
  rw [rescaleQ, hfrac, Rat.floor_intCast_div_natCast, Nat.cast_mul, Nat.cast_ofNat]

/-- The signed range rescales to 0..255 (`42_fixed_gradient.md` R149). -/
theorem rescaleQ_bounds {n : Int} {d : Nat} (hd : 0 < d) (hlow : -(127 * d) ≤ n) (hhigh : n ≤ 127 * d) :
    0 ≤ rescaleQ ((n : ℚ) / d) ∧ rescaleQ ((n : ℚ) / d) ≤ 255 := by
  rw [rescaleQ_div n hd]
  refine ⟨Int.ediv_nonneg (by omega) (by omega), Int.le_of_lt_add_one ?_⟩
  rw [Int.ediv_lt_iff_lt_mul (by omega)]
  omega

/-- The integer form of `rescale` on the signed range (`42_fixed_gradient.md` R149). -/
theorem rescale_eq {n : Int} {d : Nat} (hd : 0 < d) (hlow : -(127 * d) ≤ n) :
    rescale n d = BitVec.ofInt 8 (rescaleQ ((n : ℚ) / d)) := by
  have hnonneg : 0 ≤ (510 * (n + 127 * d) + 254 * d) / (508 * d : Int) := Int.ediv_nonneg (by omega) (by omega)
  rw [rescaleQ_div n hd, rescale, ← BitVec.ofInt_natCast, Int.toNat_of_nonneg hnonneg]

/-- Settles O9: both forms are one integer quotient, and its value is a byte. -/
theorem rescaleRoundsTheExactValue : Obligations.RescaleRoundsTheExactValue := by
  refine ⟨fun n d hd hlow hhigh => ?_, by decide, by decide, by decide, by decide⟩
  have hpos : 0 < d := by omega
  obtain ⟨hnonneg, hbyte⟩ := rescaleQ_bounds hpos hlow hhigh
  refine ⟨?_, hnonneg, hbyte⟩
  rw [rescale_eq hpos hlow, BitVec.toNat_ofInt]
  omega

/-- An entry of the signed gradient is the rescaled numerator over its denominator. -/
theorem rescale_gradS {e0 e1 : Byte} {k : Nat} {n : Int} {d : Nat} (hd : 0 < d) (hlow : -(127 * d) ≤ n)
    (hv : gradV (signedValue e0) (signedValue e1) k = (n : ℚ) / d) : rescale n d = gradS e0 e1 k := by
  rw [gradS, hv, rescale_eq hd hlow]

/-- `GRAD8S` by entry (`42_fixed_gradient.md` R147). -/
theorem grad8s_eq (e0 e1 : Byte) : grad8s (signedRef e0) (signedRef e1) = (List.range 8).map (gradS e0 e1) := by
  obtain ⟨h₀, -⟩ := signedValue_bounds e0
  obtain ⟨h₁, -⟩ := signedValue_bounds e1
  rw [signedRef_eq_signedValue, signedRef_eq_signedValue, map_range_eight]
  by_cases h : signedValue e1 < signedValue e0
  all_goals
    simp only [grad8s, h, if_true, if_false, List.map_cons, List.map_nil, List.cons_append, List.nil_append, List.cons.injEq,
      and_true]
    refine ⟨?_, ?_, ?_, ?_, ?_, ?_, ?_, ?_⟩
  all_goals
    refine rescale_gradS (by decide) (by omega) ?_
    norm_num [gradV, h]

/-! ### Order of the entries -/

/-- An interpolated entry of the falling gradient (`42_fixed_gradient.md` R133). -/
theorem toNat_grad8u_falling {e0 e1 : Byte} (h : e1.toNat < e0.toNat) {k : Nat} (hk : 1 < k) (hk' : k < 8) :
    ((grad8u e0 e1).getD k 0).toNat = ((8 - k) * e0.toNat + (k - 1) * e1.toNat) / 7 := by
  have : grad8u e0 e1 = [e0, e1, mixByte 6 1 7 e0 e1, mixByte 5 2 7 e0 e1, mixByte 4 3 7 e0 e1, mixByte 3 4 7 e0 e1,
      mixByte 2 5 7 e0 e1, mixByte 1 6 7 e0 e1] := by simp [grad8u, h, mixByte]
  rw [this]
  interval_cases k <;> exact toNat_mixByte rfl (by decide) e0 e1

/-- Settles O8: from entry to entry the numerator falls by the difference of the references. -/
theorem gradientsAreMonotone : Obligations.GradientsAreMonotone := by
  refine ⟨fun e0 e1 h => ?_, fun e0 e1 h => ?_, fun a b h => ?_, fun a b h => ?_, fun a b h => ?_⟩
  · refine ⟨fun k hk hk' => ?_, ?_, ?_⟩
    · rw [toNat_grad8u_falling h hk (by omega), toNat_grad8u_falling h (by omega) (by omega)]
      interval_cases k <;> omega
    all_goals
      rw [toNat_grad8u_falling h (by omega) (by omega)]
      omega
  · have h' : e1.toNat < e0.toNat := by omega
    refine ⟨fun k hk hk' => ?_, ?_, ?_⟩
    · rw [toNat_grad8u_falling h' hk (by omega), toNat_grad8u_falling h' (by omega) (by omega)]
      interval_cases k <;> omega
    all_goals
      rw [toNat_grad8u_falling h' (by omega) (by omega)]
      omega
  all_goals
    rw [toNat_mixByte (by decide) (by decide), toNat_mixByte (by decide) (by decide)]
    omega

/-! ### Pixels -/

/-- The index of a pixel in a stream of `w`-bit indices is the field of its position (`30_encoding.md` R75, R76). -/
theorem streamIndex_eq {n : Nat} (w : Nat) (sel : BitVec n) (i : Nat) :
    streamIndex w sel i = (sel.extractLsb' (w * i) w).toNat := by
  rw [BitVec.extractLsb'_toNat, Nat.shiftRight_eq_div_pow, streamIndex]

/-- A pixel reads the entry its field names from a palette of `2 ^ w` entries. -/
theorem getD_streamIndex {α : Type} {n : Nat} (w : Nat) (p : Nat → α) (d : α) (sel : BitVec n) (i : Nat) :
    ((List.range (2 ^ w)).map p).getD (streamIndex w sel i) d = p (sel.extractLsb' (w * i) w).toNat := by
  have hlt := (sel.extractLsb' (w * i) w).isLt
  rw [streamIndex_eq, List.getD_eq_getElem _ _ (by simpa using hlt), List.getElem_map, List.getElem_range]

/-- The colour of a pixel by channel (`42_fixed_gradient.md` R131). -/
theorem colourAt_colourRegs (entry : Nat → Nat → Nat) (sel : BitVec 32) (i : Nat) :
    colourAt (colourRegs entry) sel i =
      ⟨BitVec.ofNat 8 (entry (colourIndex sel i) 0), BitVec.ofNat 8 (entry (colourIndex sel i) 1),
       BitVec.ofNat 8 (entry (colourIndex sel i) 2), BitVec.ofNat 8 (entry (colourIndex sel i) 3)⟩ :=
  getD_streamIndex 2 _ _ sel i

/-- The gradient value of a pixel (`42_fixed_gradient.md` R134). -/
theorem gradAt_map (p : Nat → Byte) (sel : BitVec 48) (i : Nat) :
    gradAt ((List.range 8).map p) sel i = p (gradIndex sel i) := getD_streamIndex 3 p 0 sel i

/-- The alpha of a pixel from the grid (`42_fixed_gradient.md` R136, R137). -/
theorem explicitAlpha_eq (alpha : BitVec 64) (i : Nat) :
    explicitAlpha alpha i = BitVec.ofNat 8 (alphaIndex alpha i * 17) := by
  rw [explicitAlpha, streamIndex_eq, alphaIndex]

/-! ### Blocks -/

/-- A block whose pixels are given by position: when its tile fits it answers, and of the scratch the block leaves only PX is
new (`41_block_iteration.md` R115, R116). -/
theorem finishBlock_map {f : Fmt} {g : Nat → Pixel} {px : Nat → Nat → Byte} {s u : State}
    (hu : u = { s with scratch := u.scratch }) (hg : ∀ i, g i = (List.range (outBytes f)).map (px i)) (hfit : TileFits f s) :
    ∃ t, finishBlock f ⟨pixelNos.map g, false⟩ u = .next t ∧ BlockDone f false px s t ∧
      t.scratch = { u.scratch with px := t.scratch.px } := by
  have hfull : FullTile f false ⟨pixelNos.map g, false⟩ := fullTile_map fun i => by simp [hg]
  obtain ⟨t, ht, hpx, hdone⟩ := finishBlock_done hfull hfit u.scratch
  rw [← hu] at ht
  have hbytes : ∀ i < 16, ∀ c < outBytes f, tilePixel ⟨pixelNos.map g, false⟩ i c = px i c := by
    intro i hi c hc
    simp [tilePixel, pixelNos, hg, hi, hc]
  obtain ⟨p, q, hp, hq, hlen, hin, hout⟩ := hdone.pad
  refine ⟨t, ht, ⟨⟨p, q, hp, hq, hlen, fun i hi c hc => hbytes i hi c hc ▸ hin i hi c hc, hout⟩, ?_, hdone.rest⟩, ?_⟩
  · rw [hpx]
    exact List.map_congr_left fun i _ => hg i
  · obtain ⟨-, -, -, -, rfl⟩ := finishBlock_cases ht
    rfl

/-- Settles O10: the palette of C0 and C1, and the entry each index names. -/
theorem bc1BlockDecodes : Obligations.Bc1BlockDecodes := by
  intro c0 c1 sel s hfit
  simp only [exec, execBc1, bc1Pixels, bc1Palette_eq, colourAt_colourRegs]
  exact finishBlock_map rfl (fun _ => by rfl) hfit

/-- Settles O11: four colours, alpha from the grid. -/
theorem bc2BlockDecodes : Obligations.Bc2BlockDecodes := by
  intro alpha c0 c1 sel s hfit
  simp only [exec, execBc2, bc2Pixels, fourColour_eq, colourAt_colourRegs, explicitAlpha_eq]
  exact finishBlock_map rfl (fun _ => by rfl) hfit

/-- Settles O12: four colours, alpha from the unsigned gradient. -/
theorem bc3BlockDecodes : Obligations.Bc3BlockDecodes := by
  intro e0 e1 asel c0 c1 sel s hfit
  simp only [exec, execBc3, bc3Pixels, fourColour_eq, colourAt_colourRegs, grad8u_eq, gradAt_map]
  exact finishBlock_map rfl (fun _ => by rfl) hfit

/-- Settles O13: the unsigned gradient. -/
theorem bc4BlockDecodes : Obligations.Bc4BlockDecodes := by
  intro e0 e1 sel s hfit
  simp only [exec, execBc4, oneChannelPixels, grad8u_eq, gradAt_map]
  exact finishBlock_map rfl (fun _ => by rfl) hfit

/-- Settles O14: the signed gradient. -/
theorem bc4sBlockDecodes : Obligations.Bc4sBlockDecodes := by
  intro e0 e1 sel s hfit
  simp only [exec, execBc4s, oneChannelPixels, grad8s_eq, gradAt_map]
  simp only [signedRef_eq_signedValue]
  exact finishBlock_map rfl (fun _ => by rfl) hfit

/-- Settles O15: the unsigned gradient of each half. -/
theorem bc5BlockDecodes : Obligations.Bc5BlockDecodes := by
  intro re0 re1 rsel ge0 ge1 gsel s hfit
  simp only [exec, execBc5, twoChannelPixels, grad8u_eq, gradAt_map]
  refine (finishBlock_map ?_ (fun i => ?_) hfit).imp fun t ⟨ht, hdone, hscratch⟩ => ⟨ht, hdone, ?_⟩
  · rfl
  · rfl
  · rw [hscratch]
    rfl

/-- Settles O16: the signed gradient of each half. -/
theorem bc5sBlockDecodes : Obligations.Bc5sBlockDecodes := by
  intro re0 re1 rsel ge0 ge1 gsel s hfit
  simp only [exec, execBc5s, twoChannelPixels, grad8s_eq, gradAt_map]
  refine (finishBlock_map ?_ (fun i => ?_) hfit).imp fun t ⟨ht, hdone, hscratch⟩ => ⟨ht, hdone, ?_⟩
  · rfl
  · rfl
  · rw [hscratch]
    rfl

/-! ### Sample words -/

/-- Settles O3: the decoder run on each word. -/
theorem sampleWordsDecode : Obligations.SampleWordsDecode := by
  unfold Obligations.SampleWordsDecode
  refine ⟨?_, ?_, ?_, ?_, ?_, ?_, ?_, ?_, ?_, ?_, ?_, ?_, ?_, ?_, ?_⟩
  all_goals decide

end Sys2Proof.Proofs
end

section
/-! ## The BC6H codec

The header scatter ORs a bit into a field exactly where the layout says the field has it, and no layout names a bit twice, so
the OR is the sum by position that the statements write. The pixel loop advances by the index widths: the pixels whose indices
fit are decoded, and in a mode of the table all sixteen fit. -/

namespace Sys2Proof.Proofs

open Sys2Proof.Machine Sys2Proof.Safety Sys2Proof.Claims

/-! ### Layouts -/

/-- The layout names each bit a mode must have, in some order, and none twice (`43_bc6h.md` R163). -/
theorem modes6_layout : ∀ d ∈ modes6,
    d.fieldBits.length = d.hl ∧ d.fieldBits.Perm (expectedBits d) ∧ (expectedBits d).Nodup := by decide

/-- No header bit of a mode is named twice. -/
theorem fieldBits_nodup {d : Mode6} (hd : d ∈ modes6) : d.fieldBits.Nodup := by
  obtain ⟨-, hperm, hnodup⟩ := modes6_layout d hd
  exact hperm.nodup_iff.2 hnodup

/-- The layout starts with the mode tag (`43_bc6h.md` R163). -/
theorem modes6_tag : ∀ d ∈ modes6, ∀ p < d.modeBits, d.fieldBits[p]?.map Prod.fst = some .mode := by decide

/-- The width of an index, as the model and as the statement write it (`43_bc6h.md` R168). -/
theorem width6_eq_indexWidth6 (d : Mode6) (shape i : Nat) : width6 d shape i = indexWidth6 d shape i := by
  unfold width6 indexWidth6
  cases isFixup d.regions shape i <;> rfl

/-- With its indices a mode takes the whole block (`43_bc6h.md` R168, R175). -/
theorem header_add_indices {d : Mode6} (hd : d ∈ modes6) {shape : Nat} (hs : shape < 64) :
    d.hl + offsetOf (width6 d shape) 16 = 128 := by
  obtain ⟨-, hregions, hib, hbits⟩ := modes6_fit d hd
  have hindex : offsetOf (indexWidth6 d shape) 16 + d.regions = 16 * d.ib := indexBits (by omega) hs hib
  rw [funext (width6_eq_indexWidth6 d shape)]
  omega

/-- Settles O17: the layouts checked one by one, the widths of the indices counted from the fix-up pixels. -/
theorem bc6hLayoutsCoverTheHeader : Obligations.Bc6hLayoutsCoverTheHeader := by
  refine ⟨rfl, fun d hd => ?_⟩
  obtain ⟨hlen, hperm, hnodup⟩ := modes6_layout d hd
  exact ⟨hlen, hperm, hnodup, fun shape hs => header_add_indices hd (by omega)⟩

/-! ### The OR of distinct bits is their sum -/

/-- A bit that is clear is set by adding it. -/
theorem or_two_pow_eq_add {x k : Nat} (h : x.testBit k = false) : x ||| 2 ^ k = x + 2 ^ k := by
  have hq : x / 2 ^ k ||| 1 = x / 2 ^ k + 1 := by
    have heven : x / 2 ^ k % 2 = 0 := by simpa [Nat.testBit_eq_decide_div_mod_eq] using h
    obtain ⟨m, hm⟩ := Nat.dvd_of_mod_eq_zero heven
    rw [hm]
    exact (Nat.two_pow_add_eq_or_of_lt (i := 1) (by decide) m).symm
  have hr : x % 2 ^ k < 2 ^ k := Nat.mod_lt _ (by positivity)
  calc x ||| 2 ^ k
      = (x / 2 ^ k) <<< k ||| x % 2 ^ k ||| 1 <<< k := by
        rw [← Nat.shiftLeft_add_eq_or_of_lt hr, Nat.shiftLeft_eq, Nat.div_add_mod', Nat.one_shiftLeft]
    _ = (x / 2 ^ k ||| 1) <<< k ||| x % 2 ^ k := by rw [Nat.or_right_comm, Nat.shiftLeft_or_distrib]
    _ = (x / 2 ^ k + 1) * 2 ^ k + x % 2 ^ k := by rw [hq, ← Nat.shiftLeft_add_eq_or_of_lt hr, Nat.shiftLeft_eq]
    _ = x + 2 ^ k := by rw [Nat.succ_mul, Nat.add_right_comm, Nat.div_add_mod']

/-- What header position `p` adds to a field (`43_bc6h.md` R164). -/
def headerTerm (d : Mode6) (b : BitVec 128) (f : HdrField) (p : Nat) : Nat :=
  match d.fieldBits[p]? with
  | some (g, k) => if g = f ∧ b.getLsbD p = true then 2 ^ k else 0
  | none => 0

/-- What the first `n` header positions add to a field. -/
def headerSum (d : Mode6) (b : BitVec 128) (f : HdrField) (n : Nat) : Nat := ((List.range n).map (headerTerm d b f)).sum

/-- A field by position is what all the header positions add to it. -/
theorem field6_eq_headerSum (d : Mode6) (b : BitVec 128) (f : HdrField) : field6 d b f = headerSum d b f d.hl := rfl

theorem headerSum_succ (d : Mode6) (b : BitVec 128) (f : HdrField) (n : Nat) :
    headerSum d b f (n + 1) = headerSum d b f n + headerTerm d b f n := List.sum_range_succ _ n

/-- A position adds nothing to a field, or the bit of the field it holds. -/
theorem headerTerm_cases (d : Mode6) (b : BitVec 128) (f : HdrField) (p : Nat) :
    headerTerm d b f p = 0 ∨ ∃ k, d.fieldBits[p]? = some (f, k) ∧ headerTerm d b f p = 2 ^ k := by
  unfold headerTerm
  split
  · rename_i g k hp
    split
    · rename_i h
      exact .inr ⟨k, h.1 ▸ hp, rfl⟩
    · exact .inl rfl
  · exact .inl rfl

section
variable {d : Mode6} {b : BitVec 128} {f : HdrField} {n : Nat}

/-- A position sets the bit it holds, when no position before it holds the same bit. -/
theorem headerSum_succ_of_bits (hd : d.fieldBits.Nodup)
    (hbits : ∀ k, (headerSum d b f n).testBit k = true → ∃ p < n, d.fieldBits[p]? = some (f, k)) :
    headerSum d b f (n + 1) = headerSum d b f n ||| headerTerm d b f n := by
  rw [headerSum_succ]
  rcases headerTerm_cases d b f n with h₀ | ⟨k, hk, hterm⟩
  · rw [h₀, Nat.or_zero, Nat.add_zero]
  · have hclear : (headerSum d b f n).testBit k = false := by
      refine Bool.eq_false_iff.2 fun hset => ?_
      obtain ⟨p, hp, hpk⟩ := hbits k hset
      have hlen : p < d.fieldBits.length := (List.getElem?_eq_some_iff.1 hpk).1
      exact hp.ne ((List.getElem?_inj hlen hd).1 (hpk.trans hk.symm))
    rw [hterm, or_two_pow_eq_add hclear]

/-- A bit of a field is held by a position. -/
theorem exists_of_testBit_headerSum (hd : d.fieldBits.Nodup) :
    ∀ {k : Nat}, (headerSum d b f n).testBit k = true → ∃ p < n, d.fieldBits[p]? = some (f, k) := by
  induction n with
  | zero => simp [headerSum]
  | succ n ih =>
    intro k hk
    rw [headerSum_succ_of_bits hd fun _ => ih, Nat.testBit_or, Bool.or_eq_true] at hk
    rcases hk with hk | hk
    · obtain ⟨p, hp, hpk⟩ := ih hk
      exact ⟨p, by omega, hpk⟩
    · rcases headerTerm_cases d b f n with h₀ | ⟨j, hj, hterm⟩
      · simp [h₀] at hk
      · rw [hterm, Nat.testBit_two_pow, decide_eq_true_eq] at hk
        exact ⟨n, n.lt_succ_self, hk ▸ hj⟩

/-- Positions are ORed into a field one after the other (`43_bc6h.md` R164). -/
theorem headerSum_succ_eq_or (hd : d.fieldBits.Nodup) :
    headerSum d b f (n + 1) = headerSum d b f n ||| headerTerm d b f n :=
  headerSum_succ_of_bits hd fun _ => exists_of_testBit_headerSum hd

end

/-! ### The header scatter -/

@[simp] theorem rgb_get_modify (g : Nat → Nat) (x : Rgb Nat) (c c' : Channel) :
    Rgb.get (Rgb.modify g x c) c' = if c = c' then g (Rgb.get x c') else Rgb.get x c' := by
  cases c <;> cases c' <;> rfl

@[simp] theorem endpoints_get_modify (g : Nat → Nat) (x : Endpoints Nat) (e e' : EndpointName) (c : Channel) :
    (x.modify g e c).get e' = if e = e' then Rgb.modify g (x.get e') c else x.get e' := by
  cases e <;> cases e' <;> rfl

/-- A field of the header by name; the mode tag and an unused bit have none. -/
def fieldOf (h : Fields6) : HdrField → Nat
  | .shape => h.shape
  | .ep e c => Rgb.get (h.ep.get e) c
  | .mode => 0
  | .unused => 0

/-- A header bit is ORed into its own field (`43_bc6h.md` R164). -/
theorem fieldOf_setBit {f : HdrField} (hm : f ≠ .mode) (hu : f ≠ .unused) (h : Fields6) (g : HdrField) (k : Nat) :
    fieldOf (h.setBit (g, k)) f = if g = f then fieldOf h f ||| 2 ^ k else fieldOf h f := by
  cases f with
  | mode => exact absurd rfl hm
  | unused => exact absurd rfl hu
  | shape => cases g <;> simp [Fields6.setBit, fieldOf, Nat.one_shiftLeft]
  | ep e c =>
    cases g with
    | ep e' c' =>
      by_cases he : e' = e
      · by_cases hc : c' = c <;> simp [Fields6.setBit, fieldOf, Nat.one_shiftLeft, he, hc]
      · simp [Fields6.setBit, fieldOf, he]
    | mode | unused | shape => simp [Fields6.setBit, fieldOf]

/-- One step of the scatter ORs into a field what its position adds (`43_bc6h.md` R161, R164). -/
theorem fieldOf_scatter_step {f : HdrField} (hm : f ≠ .mode) (hu : f ≠ .unused) (d : Mode6) (c : Cursor) (h : Fields6) :
    fieldOf (if c.bit c.pos = 1 then h.setBit (d.fieldBits.getD c.pos (.unused, 0)) else h) f =
      fieldOf h f ||| headerTerm d c.blk f c.pos := by
  have hbit : c.bit c.pos = 1 ↔ c.blk.getLsbD c.pos = true := by
    rw [bit_eq_getLsbD]
    cases c.blk.getLsbD c.pos <;> decide
  simp only [hbit, headerTerm, List.getD_eq_getElem?_getD]
  by_cases hset : c.blk.getLsbD c.pos = true
  · rw [if_pos hset]
    cases d.fieldBits[c.pos]? with
    | none => simp [Fields6.setBit]
    | some p =>
      obtain ⟨g, k⟩ := p
      rw [Option.getD_some, fieldOf_setBit hm hu]
      by_cases hg : g = f <;> simp [hg, hset]
  · rw [if_neg hset]
    cases d.fieldBits[c.pos]? <;> simp [hset]

/-- The scatter leaves in a field what the positions read add to it (`43_bc6h.md` R164). -/
theorem fieldOf_scatter {d : Mode6} (hd : d.fieldBits.Nodup) {f : HdrField} (hm : f ≠ .mode) (hu : f ≠ .unused) {n : Nat}
    {c c' : Cursor} {h h' : Fields6} (hs : scatter d.fieldBits n c h = some (h', c'))
    (hstart : fieldOf h f = headerSum d c.blk f c.pos) : fieldOf h' f = headerSum d c.blk f (c.pos + n) := by
  induction n generalizing c h with
  | zero =>
    simp only [scatter, Option.some.injEq, Prod.mk.injEq] at hs
    exact hs.1 ▸ hstart
  | succ n ih =>
    simp only [scatter] at hs
    split at hs
    · cases hs
    · rename_i v c₁ hread
      obtain ⟨hv, rfl, -⟩ := Cursor.readBits_cases hread
      have hbit : v = c.bit c.pos := hv
      rw [← Nat.succ_add_eq_add_succ]
      refine ih hs ?_
      rw [hbit, fieldOf_scatter_step hm hu, hstart, ← headerSum_succ_eq_or hd]

/-- The header of a mode is read to its end, and each field holds its bits by position (`43_bc6h.md` R161, R164). -/
theorem scatter_header {d : Mode6} (hd : d ∈ modes6) (b : BitVec 128) :
    ∃ h, scatter d.fieldBits (d.hl - d.modeBits) ⟨b, d.modeBits⟩ Fields6.zero = some (h, ⟨b, d.hl⟩) ∧
      ∀ f, f ≠ .mode → f ≠ .unused → fieldOf h f = field6 d b f := by
  obtain ⟨hmode, hregions, hib, hbits⟩ := modes6_fit d hd
  obtain ⟨h, hs⟩ := scatter_fits (layout := d.fieldBits) (n := d.hl - d.modeBits) (c := ⟨b, d.modeBits⟩) Fields6.zero
    (by dsimp only; omega)
  rw [Nat.add_sub_cancel' hmode] at hs
  refine ⟨h, hs, fun f hm hu => ?_⟩
  have hzero : fieldOf Fields6.zero f = 0 := by
    cases f with
    | ep e c => cases e <;> cases c <;> rfl
    | mode | unused | shape => rfl
  have htag : headerSum d b f d.modeBits = 0 := by
    refine List.sum_eq_zero fun x hx => ?_
    obtain ⟨p, hp, rfl⟩ := List.mem_map.1 hx
    rcases headerTerm_cases d b f p with h₀ | ⟨k, hk, -⟩
    · exact h₀
    · have := modes6_tag d hd p (List.mem_range.1 hp)
      rw [hk] at this
      exact absurd (Option.some.inj this) hm
  have hfield := fieldOf_scatter (fieldBits_nodup hd) hm hu hs (hzero.trans htag.symm)
  rwa [Nat.add_sub_cancel' hmode, ← field6_eq_headerSum] at hfield

/-! ### Endpoints -/

/-- The absolute endpoints by position. -/
def endpoints6 (d : Mode6) (b : BitVec 128) : Endpoints Nat :=
  let one (e : EndpointName) : Rgb Nat := ⟨endpoint6 d b e .r, endpoint6 d b e .g, endpoint6 d b e .b⟩
  ⟨one .w, one .x, one .y, one .z⟩

theorem get_endpoints6 (d : Mode6) (b : BitVec 128) (e : EndpointName) (c : Channel) :
    Rgb.get ((endpoints6 d b).get e) c = endpoint6 d b e c := by cases e <;> cases c <;> rfl

/-- EP6 holds the absolute endpoints. -/
theorem map_endpoints6 (d : Mode6) (b : BitVec 128) :
    (endpoints6 d b).map (fun x => x.map (BitVec.ofNat 17)) = endpointRegs6 d b := rfl

/-- An absolute endpoint by name: transformed modes add the sign-extended delta to W (`43_bc6h.md` R165, R166). -/
theorem get_absolute (d : Mode6) (x : Endpoints Nat) (e : EndpointName) (c : Channel) :
    Rgb.get ((absolute d x).get e) c =
      if d.transformed = true ∧ e ≠ .w then
        ((sext (Rgb.get d.dp c) (Rgb.get (x.get e) c) + ((Rgb.get (x.get .w) c : Nat) : Int)) % (2 : Int) ^ d.bp).toNat
      else Rgb.get (x.get e) c := by
  unfold absolute
  by_cases ht : d.transformed = true
  · rw [if_pos ht]
    cases e with
    | w => simp [Endpoints.get]
    | x | y | z => cases c <;> simp [ht, Endpoints.get, Rgb.get, deltaEndpoint]
  · rw [if_neg ht, if_neg fun h => ht h.1]

theorem rgb_ext {α : Type} {x y : Rgb α} (h : ∀ c, Rgb.get x c = Rgb.get y c) : x = y := by
  cases x
  cases y
  exact (Rgb.mk.injEq ..).mpr ⟨h .r, h .g, h .b⟩

theorem endpoints_ext {α : Type} {x y : Endpoints α} (h : ∀ e c, Rgb.get (x.get e) c = Rgb.get (y.get e) c) : x = y := by
  cases x
  cases y
  exact (Endpoints.mk.injEq ..).mpr ⟨rgb_ext (h .w), rgb_ext (h .x), rgb_ext (h .y), rgb_ext (h .z)⟩

/-- The header's fields give the absolute endpoints by position. -/
theorem absolute_eq_endpoints6 {d : Mode6} {b : BitVec 128} {h : Fields6}
    (hh : ∀ f, f ≠ .mode → f ≠ .unused → fieldOf h f = field6 d b f) : absolute d h.ep = endpoints6 d b := by
  refine endpoints_ext fun e c => ?_
  have hep (e : EndpointName) : Rgb.get (h.ep.get e) c = field6 d b (.ep e c) := hh (.ep e c) (by simp) (by simp)
  rw [get_absolute, get_endpoints6, endpoint6, hep, hep]

/-! ### The pixel loop -/

section
variable (d : Mode6) (shape : Nat) (ep : Endpoints Nat) (b : BitVec 128) (p : Nat)

/-- The index of pixel `i` when the indices start at `p` (`43_bc6h.md` R168). -/
def indexAt (i : Nat) : Nat := bitsAt b (p + offsetOf (width6 d shape) i) (width6 d shape i)

/-- The index of pixel `i` lies inside the block. -/
def indexFits (i : Nat) : Prop := p + offsetOf (width6 d shape) (i + 1) ≤ 128

/-- The first `n` pixels, decoded. -/
def decodedPixels (n : Nat) : List Pixel := (List.range n).map fun i => pixel6 d shape ep i (indexAt d shape b p i)

@[simp] theorem decodedPixels_length (n : Nat) : (decodedPixels d shape ep b p n).length = n := by simp [decodedPixels]

theorem decodedPixels_succ (n : Nat) : decodedPixels d shape ep b p (n + 1) =
    decodedPixels d shape ep b p n ++ [pixel6 d shape ep n (indexAt d shape b p n)] := by
  simp [decodedPixels, List.range_succ]

theorem offsetOf_succ_eq_add (width : Nat → Nat) (i : Nat) : offsetOf width (i + 1) = offsetOf width i + width i :=
  List.sum_range_succ _ i

/-- An index takes at least one bit, and at most the mode's width (`43_bc6h.md` R168). -/
theorem width6_bounds (i : Nat) : 0 < width6 d shape i ∧ width6 d shape i ≤ d.ib := by
  unfold width6 Mode6.ib
  split <;> split <;> decide

/-- IDX before pixel `n`: the index of the pixel before it. -/
def indexBefore (idx : Nat) : Nat → Nat
  | 0 => idx
  | n + 1 => indexAt d shape b p n

variable {d shape b p}

/-- The indices up to a pixel whose index fits, fit. -/
theorem indexFits.mono {i j : Nat} (hij : i ≤ j) (h : indexFits d shape p j) : indexFits d shape p i := by
  induction hij with
  | refl => exact h
  | step _ ih =>
    refine ih ?_
    unfold indexFits at h ⊢
    rw [offsetOf_succ_eq_add] at h
    omega

/-- One turn of the loop with an index that fits (`43_bc6h.md` R161). -/
theorem pixels6_succ_of_fits {i : Nat} (h : indexFits d shape p i) (n idx : Nat) :
    pixels6 d shape ep (n + 1) idx (decodedPixels d shape ep b p i) ⟨b, p + offsetOf (width6 d shape) i⟩ =
      pixels6 d shape ep n (indexAt d shape b p i) (decodedPixels d shape ep b p (i + 1))
        ⟨b, p + offsetOf (width6 d shape) (i + 1)⟩ := by
  unfold indexFits at h
  rw [offsetOf_succ_eq_add, ← Nat.add_assoc] at h
  have hread := Cursor.readBits_fits (c := ⟨b, p + offsetOf (width6 d shape) i⟩) h
  have hrange := (Cursor.readBits_lt hread).trans_le (Nat.pow_le_pow_right (by decide) (width6_bounds d shape i).2)
  simp only [pixels6, decodedPixels_length, ← width6_eq_indexWidth6, hread, if_neg hrange.not_ge, decodedPixels_succ,
    offsetOf_succ_eq_add, ← Nat.add_assoc]
  rfl

/-- The loop over pixels whose indices fit. -/
theorem pixels6_of_fits {k : Nat} (h : ∀ i < k, indexFits d shape p i) (n idx : Nat) :
    pixels6 d shape ep (n + k) idx [] ⟨b, p⟩ =
      pixels6 d shape ep n (indexBefore d shape b p idx k) (decodedPixels d shape ep b p k)
        ⟨b, p + offsetOf (width6 d shape) k⟩ := by
  induction k generalizing n with
  | zero => rfl
  | succ k ih =>
    rw [← Nat.succ_add_eq_add_succ, ih (fun i hi => h i (by omega)), pixels6_succ_of_fits ep (h k k.lt_succ_self)]
    rfl

/-- A loop whose indices all fit decodes its sixteen pixels (`43_bc6h.md` R161, R168). -/
theorem pixels6_of_all_fit (h : ∀ i < 16, indexFits d shape p i) (idx : Nat) : pixels6 d shape ep 16 idx [] ⟨b, p⟩ =
    ⟨⟨decodedPixels d shape ep b p 16, false⟩, p + offsetOf (width6 d shape) 16, indexAt d shape b p 15⟩ :=
  pixels6_of_fits ep h 0 idx

/-- The loop ends in the block error at the first index that does not fit (`43_bc6h.md` R176). -/
theorem pixels6_tile_of_overrun {k : Nat} (h : ∀ i < k, indexFits d shape p i) (hk : ¬indexFits d shape p k) (n idx : Nat) :
    (pixels6 d shape ep (n + 1 + k) idx [] ⟨b, p⟩).tile = blockError config.bc6hErr (decodedPixels d shape ep b p k) := by
  unfold indexFits at hk
  rw [offsetOf_succ_eq_add, ← Nat.add_assoc, Nat.not_le] at hk
  have hread := Cursor.readBits_overrun (c := ⟨b, p + offsetOf (width6 d shape) k⟩) (width6_bounds d shape k).1.ne' hk
  rw [pixels6_of_fits ep h]
  simp only [pixels6, decodedPixels_length, ← width6_eq_indexWidth6, hread]

/-- The indices of the first `n` pixels all fit, or there is a first one that does not. -/
theorem indexFits_or_overrun (n : Nat) : (∀ i < n, indexFits d shape p i) ∨
    ∃ k < n, (∀ i < k, indexFits d shape p i) ∧ ¬indexFits d shape p k := by
  induction n with
  | zero => exact .inl fun i hi => absurd hi (Nat.not_lt_zero i)
  | succ n ih =>
    rcases ih with hall | ⟨k, hk, hover⟩
    · by_cases hn : indexFits d shape p n
      · exact .inl fun i hi => (Nat.lt_succ_iff_lt_or_eq.1 hi).elim (hall i) fun h => h ▸ hn
      · exact .inr ⟨n, n.lt_succ_self, hall, hn⟩
    · exact .inr ⟨k, by omega, hover⟩

end

/-- Settles O20: the loop decodes up to the first index that does not fit, if there is one, and then the fallback fills the
tile. -/
theorem bc6hOverrunFillsTheRest : Obligations.Bc6hOverrunFillsTheRest := by
  rintro d shape ep idx ⟨b, p⟩
  dsimp only
  change (∀ i < 16, indexFits d shape p i → _ = some (pixel6 d shape ep i (indexAt d shape b p i))) ∧
    (∀ i < 16, ¬indexFits d shape p i → _) ∧ _ ∧ (_ ↔ ¬indexFits d shape p 15)
  rcases indexFits_or_overrun (d := d) (shape := shape) (p := p) 16 with hall | ⟨k, hk, hbefore, hover⟩
  · rw [pixels6_of_all_fit ep hall]
    refine ⟨fun i hi _ => ?_, fun i hi hi' => absurd (hall i hi) hi', decodedPixels_length .., ?_⟩
    · simp [decodedPixels, hi]
    · simp [hall 15 (by decide)]
  · obtain ⟨n, hn⟩ := Nat.exists_eq_add_of_le hk
    rw [show 16 = n + 1 + k by omega, pixels6_tile_of_overrun ep hbefore hover n idx]
    have hfits (i : Nat) : indexFits d shape p i ↔ i < k :=
      ⟨fun hi => Nat.lt_of_not_le fun hki => hover (hi.mono hki), hbefore i⟩
    refine ⟨fun i hi hf => ?_, fun i hi hf => ?_, ?_, ?_⟩
    · have hik := (hfits i).1 hf
      rw [blockError, List.getElem?_append_left (by simpa using hik)]
      simp [decodedPixels, hik]
    · have hki := Nat.le_of_not_lt (mt (hfits i).2 hf)
      rw [blockError, List.getElem?_append_right (by simpa using hki), decodedPixels_length,
        List.getElem?_replicate_of_lt (by omega)]
      rfl
    · exact (blockError_px_length _ (by simp; omega)).trans (by omega)
    · simp only [blockError, hfits, true_iff]
      omega

/-! ### Blocks -/

/-- A valid BC6H block runs its mode on its own bits (`43_bc6h.md` R161). -/
theorem exec_of_mode6 {i : Instr} {d : Mode6} (h : mode6Of i = some d) : d ∈ modes6 ∧ exec i = runBc6h d (block i) := by
  cases i <;> simp only [mode6Of, Option.some.injEq, reduceCtorEq] at h <;> subst h
  all_goals
    refine ⟨by simp [modes6], funext fun s => ?_⟩
    rw [block, Instr.word, BitVec.ofNat_toNat, BitVec.setWidth_eq]
    rfl

/-- Pixel `i` of a block by position (`43_bc6h.md` R167-R174). -/
theorem pixel6_eq (d : Mode6) (b : BitVec 128) (i : Nat) :
    pixel6 d (field6 d b .shape) (endpoints6 d b) i (index6 d b i) = (List.range 4).map (pixelByte6 d b i) := by
  change _ = [pixelByte6 d b i 0, pixelByte6 d b i 1, pixelByte6 d b i 2, pixelByte6 d b i 3]
  by_cases hr : region d.regions (field6 d b .shape) i = 0
  all_goals
    simp only [pixel6, pixelByte6, regionEndpoints, hr, if_true, if_false]
    rfl

/-- The block in a mode of the table: no index is past bit 127, so the loop decodes all sixteen pixels and ends at bit 128
(`43_bc6h.md` R161, R169, R175). -/
theorem runBc6h_eq {d : Mode6} (hd : d ∈ modes6) (b : BitVec 128) (s : State) : runBc6h d b s =
    finishBlock .bc6h ⟨pixelNos.map fun i => pixel6 d (field6 d b .shape) (endpoints6 d b) i (index6 d b i), false⟩
      (setScratch6 (field6 d b .shape) (endpoints6 d b) (index6 d b 15) 128 (setMode6 d.sel d.modeBits s)) := by
  obtain ⟨h, hs, hfield⟩ := scatter_header hd b
  have hshape : h.shape = field6 d b .shape := hfield .shape (by simp) (by simp)
  have hlt : field6 d b .shape < 2 ^ 5 := hshape ▸ scatter_shape_lt (modes6_shape d hd) (by decide) hs
  have htotal := header_add_indices hd (shape := field6 d b .shape) (by omega)
  have hfits : ∀ i < 16, indexFits d (field6 d b .shape) d.hl i :=
    fun i hi => indexFits.mono (Nat.le_of_lt_succ hi) htotal.le
  simp only [runBc6h, hs, hshape, absolute_eq_endpoints6 hfield, pixels6_of_all_fit _ hfits, htotal]
  rfl

/-- Settles O18: the tile and the scratch of a block in a mode of the table, by position. -/
theorem bc6hBlockDecodes : Obligations.Bc6hBlockDecodes := by
  intro i d s hi hfit
  obtain ⟨hd, hexec⟩ := exec_of_mode6 hi
  rw [hexec, runBc6h_eq hd]
  exact finishBlock_map rfl (pixel6_eq d (block i)) hfit

/-- A tile given by position: when it fits the block answers, and of the scratch only PX is new (`41_block_iteration.md`
R115, R116). -/
theorem finishBlock_of_tile {f : Fmt} {e : Bool} {u : Tile} {px : Nat → Nat → Byte} {s v : State}
    (hv : v = { s with scratch := v.scratch }) (hu : FullTile f e u)
    (hpx : ∀ i < 16, ∀ c < outBytes f, tilePixel u i c = px i c) (hfit : TileFits f s) :
    ∃ t, finishBlock f u v = .next t ∧ BlockDone f e px s t ∧ t.scratch = { v.scratch with px := t.scratch.px } := by
  obtain ⟨t, ht, -, ⟨p, q, hp, hq, hlen, hin, hout⟩, htile, hrest⟩ := finishBlock_done hu hfit v.scratch
  rw [← hv] at ht
  refine ⟨t, ht, ⟨⟨p, q, hp, hq, hlen, fun i hi c hc => hpx i hi c hc ▸ hin i hi c hc, hout⟩, ?_, hrest⟩, ?_⟩
  · rw [htile]
    exact List.map_congr_left fun i hi => List.map_congr_left fun c hc =>
      hpx i (List.mem_range.1 hi) c (List.mem_range.1 hc)
  · obtain ⟨-, -, -, -, rfl⟩ := finishBlock_cases ht
    rfl

/-- The fallback tile of BC6H (`43_bc6h.md` R162). -/
theorem tilePixel_fallback6 : ∀ i < 16, ∀ c < outBytes .bc6h,
    tilePixel (blockError config.bc6hErr []) i c = if c = 3 then 255 else 0 := by decide

/-- Settles O19: each reserved selector stores the fallback tile. -/
theorem bc6hReservedBlockFallsBack : Obligations.Bc6hReservedBlockFallsBack := by
  intro x s hfit e he
  have hrun (sel : Nat) : ∃ t, runReserved6 sel s = .next t ∧ _ :=
    finishBlock_of_tile (v := setMode6 sel 5 s) rfl (fullTile_blockError rfl _) tilePixel_fallback6 hfit
  simp only [List.mem_cons, List.not_mem_nil, or_false] at he
  obtain rfl | rfl | rfl | rfl := he
  · exact hrun 0x13
  · exact hrun 0x17
  · exact hrun 0x1B
  · exact hrun 0x1F

end Sys2Proof.Proofs
end

section
/-! ## Ranges of BC6H

The half-float conversion is one rounded quotient, the interpolation a weighted mean, and an endpoint a field of the header or a
sum cut to the mode's precision. -/

namespace Sys2Proof.Proofs

open Sys2Proof.Machine Sys2Proof.Safety Sys2Proof.Claims

/-! ### Half to byte -/

/-- Numerator of the value of a half (`43_bc6h.md` R173). -/
def halfNum (h : Nat) : Nat :=
  if h / 1024 = 0 then h % 1024
  else if h / 1024 ≤ 25 then 1024 + h % 1024
  else (1024 + h % 1024) * 2 ^ (h / 1024 - 25)

/-- Denominator of the value of a half (`43_bc6h.md` R173). -/
def halfDen (h : Nat) : Nat := if h / 1024 = 0 then 2 ^ 24 else if h / 1024 ≤ 25 then 2 ^ (25 - h / 1024) else 1

theorem half2byte_eq (h : Nat) :
    half2byte h = (2 * 255 * min (halfNum h) (halfDen h) + halfDen h) / (2 * halfDen h) := rfl

theorem halfDen_pos (h : Nat) : 0 < halfDen h := by
  unfold halfDen
  split
  · decide
  · split <;> positivity

/-- The fraction the model rounds is the value of the half. -/
theorem halfValue_eq_div (h : Nat) : halfValue h = (halfNum h : ℚ) / halfDen h := by
  unfold halfValue halfNum halfDen
  dsimp only
  by_cases h₀ : h / 1024 = 0
  · simp only [if_pos h₀]
    norm_num
  · by_cases h₁ : h / 1024 ≤ 25
    · obtain ⟨k, hk⟩ := Nat.exists_eq_add_of_le h₁
      have hexp : ((h / 1024 : Nat) : Int) - 25 = -(k : Int) := by omega
      have hden : 25 - h / 1024 = k := by omega
      simp only [if_neg h₀, if_pos h₁]
      rw [hexp, hden, zpow_neg, zpow_natCast, ← div_eq_mul_inv]
      push_cast
      rfl
    · obtain ⟨k, hk⟩ := Nat.exists_eq_add_of_le (Nat.le_of_not_le h₁)
      have hexp : ((h / 1024 : Nat) : Int) - 25 = (k : Int) := by omega
      have hnum : h / 1024 - 25 = k := by omega
      simp only [if_neg h₀, if_neg h₁]
      rw [hexp, hnum, zpow_natCast]
      push_cast
      rw [div_one]

/-- The clamped value times 255, rounded half up, is one integer quotient (`43_bc6h.md` R173). -/
theorem half2byte_eq_floor (h : Nat) : (half2byte h : Int) = ⌊min (halfValue h) 1 * 255 + 1 / 2⌋ := by
  have hpos : (0 : ℚ) < halfDen h := by exact_mod_cast halfDen_pos h
  have hclamp : min (halfValue h) 1 = ((min (halfNum h) (halfDen h) : Nat) : ℚ) / halfDen h := by
    rw [halfValue_eq_div, Nat.cast_min, ← min_div_div_right hpos.le, div_self hpos.ne']
  have hfrac : min (halfValue h) 1 * 255 + 1 / 2 =
      ((2 * 255 * min (halfNum h) (halfDen h) + halfDen h : Nat) : ℚ) / ((2 * halfDen h : Nat) : ℚ) := by
    rw [hclamp]
    push_cast
    field_simp
    ring
  rw [hfrac, half2byte_eq, Rat.floor_natCast_div_natCast]
  exact Int.natCast_div _ _

/-- A half is converted to a byte (`43_bc6h.md` R177). -/
theorem half2byte_le (h : Nat) : half2byte h ≤ 255 := by
  have hpos := halfDen_pos h
  have hmin : min (halfNum h) (halfDen h) ≤ halfDen h := Nat.min_le_right ..
  rw [half2byte_eq, ← Nat.lt_succ_iff, Nat.div_lt_iff_lt_mul (by omega)]
  omega

/-- A half of 1 or more is clamped (`43_bc6h.md` R173). -/
theorem half2byte_of_one_le {h : Nat} (hh : 0x3C00 ≤ h) : half2byte h = 255 := by
  have hpos := halfDen_pos h
  have hclamp : halfDen h ≤ halfNum h := by
    unfold halfDen halfNum
    have he : h / 1024 ≠ 0 := by omega
    simp only [if_neg he]
    split
    · calc 2 ^ (25 - h / 1024) ≤ 2 ^ 10 := Nat.pow_le_pow_right (by decide) (by omega)
        _ ≤ 1024 + h % 1024 := Nat.le_add_right ..
    · exact Nat.mul_pos (by omega) (by positivity)
  refine le_antisymm (half2byte_le h) ?_
  rw [half2byte_eq, Nat.min_eq_right hclamp, Nat.le_div_iff_mul_le (by omega)]
  omega

/-- A half below `1 / 510` rounds to 0 (`43_bc6h.md` R173). -/
theorem half2byte_of_small {h : Nat} (hh : h ≤ 0x1804) : half2byte h = 0 := by
  have hsmall : 510 * halfNum h < halfDen h := by
    unfold halfDen halfNum
    split
    · omega
    · rw [if_pos (by omega), if_pos (by omega)]
      rcases Nat.lt_or_ge (h / 1024) 6 with he | he
      · calc 510 * (1024 + h % 1024) < 2 ^ 20 := by omega
          _ ≤ 2 ^ (25 - h / 1024) := Nat.pow_le_pow_right (by decide) (by omega)
      · rw [show h / 1024 = 6 by omega]
        omega
  have hmin : min (halfNum h) (halfDen h) ≤ halfNum h := Nat.min_le_left ..
  rw [half2byte_eq]
  exact Nat.div_eq_of_lt (by omega)

/-- Settles O22: the value of the half is a fraction, and the clamp and the rounding of it are one integer quotient. -/
theorem halfToByteRoundsTheExactValue : Obligations.HalfToByteRoundsTheExactValue :=
  ⟨fun h _ => half2byte_eq_floor h, fun _ hh _ => half2byte_of_one_le hh, fun _ hh => half2byte_of_small hh, by decide⟩

/-! ### Endpoints and pixels -/

/-- Precision is at most 16 bits, and a field that is an endpoint as it stands has no bit above it (`43_bc6h.md` R163). -/
theorem modes6_precision : ∀ d ∈ modes6, d.bp ≤ 16 ∧ ∀ q ∈ d.fieldBits, ∀ e ∈ [EndpointName.w, .x, .y, .z],
    ∀ c ∈ [Channel.r, .g, .b], q.1 = .ep e c → d.transformed = true ∧ e ≠ .w ∨ q.2 < d.bp := by decide

/-- A field is below `2 ^ n` when its header bits are bits `0` to `n - 1`. -/
theorem field6_lt {d : Mode6} (hd : d.fieldBits.Nodup) {b : BitVec 128} {f : HdrField} {n : Nat}
    (hn : ∀ k, (f, k) ∈ d.fieldBits → k < n) : field6 d b f < 2 ^ n := by
  refine Nat.lt_pow_two_of_testBit _ fun k hk => Bool.eq_false_iff.2 fun hset => ?_
  obtain ⟨p, -, hp⟩ := exists_of_testBit_headerSum hd (field6_eq_headerSum d b f ▸ hset)
  exact (hn k (List.mem_of_getElem? hp)).not_ge hk

/-- An absolute endpoint has the precision of its mode (`43_bc6h.md` R166, R177). -/
theorem endpoint6_lt {d : Mode6} (hd : d ∈ modes6) (b : BitVec 128) (e : EndpointName) (c : Channel) :
    endpoint6 d b e c < 2 ^ d.bp := by
  unfold endpoint6
  split
  · have hlow := Int.emod_nonneg (sext (Rgb.get d.dp c) (field6 d b (.ep e c)) + (field6 d b (.ep .w c) : Int))
      (b := 2 ^ d.bp) (by positivity)
    have hhigh := Int.emod_lt_of_pos (sext (Rgb.get d.dp c) (field6 d b (.ep e c)) + (field6 d b (.ep .w c) : Int))
      (b := 2 ^ d.bp) (by positivity)
    zify
    rwa [Int.toNat_of_nonneg hlow]
  · rename_i hplain
    obtain ⟨-, hprec⟩ := modes6_precision d hd
    refine field6_lt (fieldBits_nodup hd) fun k hk => ?_
    exact (hprec _ hk e (by cases e <;> simp) c (by cases c <;> simp) rfl).resolve_left hplain

/-- An endpoint register holds its endpoint modulo the register's width. -/
theorem get_endpointRegs6 (d : Mode6) (b : BitVec 128) (e : EndpointName) (c : Channel) :
    Rgb.get ((endpointRegs6 d b).get e) c = BitVec.ofNat 17 (endpoint6 d b e c) := by cases e <;> cases c <;> rfl

/-- Unquantisation stays in 16 bits (`43_bc6h.md` R170, R177). -/
theorem unq6_le {p c : Nat} (hp : p ≤ 16) (hc : c < 2 ^ p) : unq6 p c ≤ 65535 := by
  have h16 : 2 ^ p ≤ 2 ^ 16 := Nat.pow_le_pow_right (by decide) hp
  unfold unq6
  split
  · omega
  · split
    · decide
    · split
      · decide
      · rw [← Nat.lt_succ_iff, Nat.div_lt_iff_lt_mul (by positivity)]
        omega

/-- A weighted mean of 16-bit values (`45_shared_tables.md` R229). -/
theorem interp_le {a b w : Nat} (ha : a ≤ 65535) (hb : b ≤ 65535) (hw : w ≤ 64) : interp a b w ≤ 65535 := by
  have h₀ : a * (64 - w) ≤ 65535 * (64 - w) := Nat.mul_le_mul_right _ ha
  have h₁ : b * w ≤ 65535 * w := Nat.mul_le_mul_right _ hb
  unfold interp
  omega

/-- The 31/64 scale of a 16-bit value is at most the largest finite half (`43_bc6h.md` R172). -/
theorem finish6_le {q : Nat} (hq : q ≤ 65535) : finish6 q ≤ 0x7BFF := by
  unfold finish6
  omega

/-- Settles O21: the endpoints are cut to the precision, and each later value is a mean or a scale of 16-bit values. -/
theorem bc6hValuesStayInRange : Obligations.Bc6hValuesStayInRange := by
  refine ⟨fun i d s t hi ht e c => ?_, fun d hd c hc => unq6_le (modes6_precision d hd).1 hc, fun a b w ha hb hw => ?_,
    fun h _ => half2byte_le h⟩
  · obtain ⟨hd, hexec⟩ := exec_of_mode6 hi
    rw [hexec, runBc6h_eq hd] at ht
    obtain ⟨-, -, -, -, rfl⟩ := finishBlock_cases ht
    change (Rgb.get ((endpointRegs6 d (block i)).get e) c).toNat < _
    rw [get_endpointRegs6, BitVec.toNat_ofNat]
    exact (Nat.mod_le _ _).trans_lt (endpoint6_lt hd _ e c)
  · have hq := interp_le ha hb hw
    exact ⟨hq, finish6_le hq⟩

end Sys2Proof.Proofs
end

section
/-! ## The fields of a BC7 block

The cursor reads the fields of R193 one after the other. Read by position they are the operands of the instruction, and the
values of a stream of fields are cut out of the operand that holds the stream. Fields that need more than 128 bits are never
read to their end. -/

namespace Sys2Proof.Proofs

open Sys2Proof.Machine Sys2Proof.Claims

/-! ### Streams of fields -/

/-- Value `k` of a stream of fields of the given widths. -/
def streamValue (width : Nat → Nat) (v k : Nat) : Nat := v / 2 ^ offsetOf width k % 2 ^ width k

theorem streamValue_lt (width : Nat → Nat) (v k : Nat) : streamValue width v k < 2 ^ width k :=
  Nat.mod_lt _ (by positivity)

theorem offsetOf_const (w n : Nat) : offsetOf (fun _ => w) n = n * w := by simp [offsetOf]

/-- In a stream of equal widths the values are the groups of bits. -/
theorem streamValue_const (w : Nat) : streamValue (fun _ => w) = fun v => group v w := by
  funext v k
  rw [streamValue, offsetOf_const, Nat.mul_comm, group]

theorem offsetOf_mono (width : Nat → Nat) {m n : Nat} (h : m ≤ n) : offsetOf width m ≤ offsetOf width n := by
  induction h with
  | refl => exact le_rfl
  | step _ ih => rw [offsetOf_succ_eq_add]; omega

theorem bitsAt_lt (b : BitVec 128) (p n : Nat) : bitsAt b p n < 2 ^ n := Nat.mod_lt _ (by positivity)

theorem bitsAt_zero (b : BitVec 128) (p : Nat) : bitsAt b p 0 = 0 := Nat.mod_one _

theorem toNat_extractLsb'_eq_bitsAt (b : BitVec 128) (p n : Nat) : (b.extractLsb' p n).toNat = bitsAt b p n := by
  rw [BitVec.extractLsb'_toNat, Nat.shiftRight_eq_div_pow, bitsAt]

/-- A value of a stream stands in the block after the widths before it. -/
theorem streamValue_bitsAt {width : Nat → Nat} {k n : Nat} (hk : k < n) (b : BitVec 128) (p : Nat) :
    streamValue width (bitsAt b p (offsetOf width n)) k = bitsAt b (p + offsetOf width k) (width k) := by
  have hle : offsetOf width k + width k ≤ offsetOf width n := offsetOf_succ_eq_add width k ▸ offsetOf_mono width hk
  rw [streamValue, bitsAt, field_of_field hle, Nat.div_div_eq_div_mul, ← pow_add, bitsAt]

/-- Behind the values of a stream there are no bits left. -/
theorem getD_map_streamValue {width : Nat → Nat} {v n : Nat} (hv : v < 2 ^ offsetOf width n) (k : Nat) :
    ((List.range n).map (streamValue width v)).getD k 0 = streamValue width v k := by
  rcases Nat.lt_or_ge k n with hk | hk
  · simp [hk]
  · have hlt : v < 2 ^ offsetOf width k := hv.trans_le (Nat.pow_le_pow_right (by decide) (offsetOf_mono width hk))
    rw [List.getD_eq_default _ _ (by simpa using hk), streamValue, Nat.div_eq_of_lt hlt, Nat.zero_mod]

theorem getD_map_group {v w n : Nat} (hv : v < 2 ^ (n * w)) (k : Nat) :
    ((List.range n).map (group v w)).getD k 0 = group v w k := by
  have h := getD_map_streamValue (width := fun _ => w) (v := v) (n := n) (by rwa [offsetOf_const]) k
  rwa [streamValue_const] at h

/-- A read that fits takes the bits at the cursor. -/
theorem readBits_at {b : BitVec 128} {p n : Nat} (h : p + n ≤ 128) :
    Cursor.readBits n ⟨b, p⟩ = some (bitsAt b p n, ⟨b, p + n⟩) := Cursor.readBits_fits h

/-- Consecutive reads that fit give the values of a stream. -/
theorem readWidths_stream {width : Nat → Nat} {n : Nat} {b : BitVec 128} {p : Nat} (h : p + offsetOf width n ≤ 128) :
    Cursor.readWidths ((List.range n).map width) ⟨b, p⟩ =
      some ((List.range n).map (streamValue width (bitsAt b p (offsetOf width n))), ⟨b, p + offsetOf width n⟩) := by
  rw [Cursor.readWidths_fits _ h, List.length_map, List.length_range]
  refine congrArg some (Prod.ext (List.map_congr_left fun k hk => ?_) rfl)
  have hk := List.mem_range.1 hk
  have htake : (((List.range n).map width).take k).sum = offsetOf width k := by
    rw [← List.map_take, List.take_range, Nat.min_eq_left hk.le, offsetOf]
  rw [streamValue_bitsAt hk, htake, bitsAt]
  simp [hk]

/-- Consecutive reads of one width that fit give groups of bits. -/
theorem readWidths_groups {w n : Nat} {b : BitVec 128} {p : Nat} (h : p + n * w ≤ 128) :
    Cursor.readWidths (List.replicate n w) ⟨b, p⟩ =
      some ((List.range n).map (group (bitsAt b p (n * w)) w), ⟨b, p + n * w⟩) := by
  have hread := readWidths_stream (width := fun _ => w) (n := n) (b := b) (p := p) (by rwa [offsetOf_const])
  rwa [offsetOf_const, streamValue_const, List.map_const', List.length_range] at hread

/-- Consecutive reads that answer move the cursor by their widths. -/
theorem readWidths_pos {ns vs : List Nat} {c c' : Cursor} (h : c.readWidths ns = some (vs, c')) :
    c'.pos = c.pos + ns.sum := by
  induction ns generalizing c vs with
  | nil =>
    simp only [Cursor.readWidths, Option.some.injEq, Prod.mk.injEq] at h
    rw [← h.2, List.sum_nil, Nat.add_zero]
  | cons n ns ih =>
    simp only [Cursor.readWidths] at h
    split at h
    · cases h
    · rename_i h₁
      split at h
      · cases h
      · rename_i h₂
        simp only [Option.some.injEq, Prod.mk.injEq] at h
        obtain ⟨-, rfl, -⟩ := Cursor.readBits_cases h₁
        obtain ⟨-, rfl⟩ := h
        rw [ih h₂, List.sum_cons, Nat.add_assoc]

/-! ### Index widths -/

/-- The primary widths as the model and as the statements write them (`44_bc7.md` R197). -/
theorem primaryWidths_eq (d : Mode7) (shape : Nat) : primaryWidths d shape = (List.range 16).map (primaryWidth d shape) := by
  refine List.map_congr_left fun i _ => ?_
  unfold primaryWidth
  cases isFixup d.ns shape i <;> rfl

/-- The secondary widths as the model and as the statements write them (`44_bc7.md` R197). -/
theorem secondaryWidths_eq {d : Mode7} (h : d.ib2 ≠ 0) :
    secondaryWidths d = (List.range 16).map (secondaryWidth d) := by
  rw [secondaryWidths, if_neg h]
  refine List.map_congr_left fun i _ => ?_
  unfold secondaryWidth
  split <;> rfl

theorem primaryWidths_sum (d : Mode7) (shape : Nat) :
    (primaryWidths d shape).sum = offsetOf (primaryWidth d shape) 16 := by rw [primaryWidths_eq, offsetOf]

theorem secondaryWidths_sum (d : Mode7) : (secondaryWidths d).sum = offsetOf (secondaryWidth d) 16 := by
  by_cases h : d.ib2 = 0
  · have hwidth : secondaryWidth d = fun _ => 0 := funext fun i => by simp [secondaryWidth, h]
    rw [hwidth, offsetOf_const, secondaryWidths, if_pos h, List.sum_nil, Nat.mul_zero]
  · rw [secondaryWidths_eq h, offsetOf]

/-- The primary indices of a mode, one bit less for every region (`44_bc7.md` R197). -/
theorem primaryBits {d : Mode7} (hd : d ∈ modes7) {shape : Nat} (hs : shape < 2 ^ d.pbw) :
    offsetOf (primaryWidth d shape) 16 = 16 * d.ib - d.ns := by
  obtain ⟨hns, hpbw, hib, -⟩ := modes7_bits d hd
  have h : (primaryWidths d shape).sum + d.ns = 16 * d.ib :=
    indexBits hns (hs.trans_le (Nat.pow_le_pow_right (by decide) hpbw)) hib
  rw [primaryWidths_sum] at h
  omega

/-! ### The operands by position -/

/-- Where the endpoints start, after shape, rotation and index mode (`44_bc7.md` R193). -/
def endpointPos (d : Mode7) : Nat := d.m + 1 + d.pbw + d.rb + d.isb

/-- Where the endpoints of channel `c` start. -/
def chanPos (d : Mode7) (c : Nat) : Nat :=
  chans (endpointPos d) (endpointPos d + d.ne * d.prec.r) (endpointPos d + d.ne * d.prec.r + d.ne * d.prec.g)
    (endpointPos d + d.ne * d.prec.r + d.ne * d.prec.g + d.ne * d.prec.b) c

/-- Where the P-bits start. -/
def pbitPos (d : Mode7) : Nat := chanPos d 3 + d.ne * d.prec.a

/-- The bits before the indices of a block. -/
theorem pbitPos_eq (d : Mode7) : pbitPos d =
    d.m + 1 + d.pbw + d.rb + d.isb + d.ne * (d.prec.r + d.prec.g + d.prec.b + d.prec.a) := by
  change d.m + 1 + d.pbw + d.rb + d.isb + d.ne * d.prec.r + d.ne * d.prec.g + d.ne * d.prec.b + d.ne * d.prec.a = _
  ring

/-- Where the secondary indices start, after the P-bits and the primary indices of a shape. -/
def secondaryPos (d : Mode7) (shape : Nat) : Nat := pbitPos d + d.np + offsetOf (primaryWidth d shape) 16

/-- The bits the fields of a block need (`44_bc7.md` R201). -/
def bitsUsed (d : Mode7) (shape : Nat) : Nat := secondaryPos d shape + offsetOf (secondaryWidth d) 16

/-- The operands of a block by position, in the order of R193. -/
def operandsAt (d : Mode7) (b : BitVec 128) : Operands7 :=
  let shape := bitsAt b (d.m + 1) d.pbw
  { shape := shape
    rot := bitsAt b (d.m + 1 + d.pbw) d.rb
    isel := bitsAt b (d.m + 1 + d.pbw + d.rb) d.isb
    chan := fun c => bitsAt b (chanPos d c) (d.ne * d.prec.chan c)
    pbits := bitsAt b (pbitPos d) d.np
    primary := bitsAt b (pbitPos d + d.np) (offsetOf (primaryWidth d shape) 16)
    secondary := bitsAt b (secondaryPos d shape) (offsetOf (secondaryWidth d) 16) }

/-- The fields the operands hold. -/
def fieldsOf (d : Mode7) (o : Operands7) : Fields7 :=
  let endpoints (c : Nat) : List Nat := (List.range d.ne).map (group (o.chan c) (d.prec.chan c))
  { shape := o.shape
    rot := o.rot
    isel := o.isel
    chans := ⟨endpoints 0, endpoints 1, endpoints 2, endpoints 3⟩
    pb := (List.range d.np).map (group o.pbits 1)
    i1 := (List.range 16).map (primaryIndex d o)
    i2 := if d.ib2 = 0 then [] else (List.range 16).map (secondaryIndex d o)
    pos := bitsUsed d o.shape }

/-- The primary indices of a block (`44_bc7.md` R197). -/
theorem readWidths_primary {d : Mode7} {shape : Nat} {b : BitVec 128} {p : Nat}
    (h : p + offsetOf (primaryWidth d shape) 16 ≤ 128) : Cursor.readWidths (primaryWidths d shape) ⟨b, p⟩ =
      some ((List.range 16).map (streamValue (primaryWidth d shape) (bitsAt b p (offsetOf (primaryWidth d shape) 16))),
        ⟨b, p + offsetOf (primaryWidth d shape) 16⟩) := by
  rw [primaryWidths_eq, readWidths_stream h]

/-- The secondary indices of a block, none in a mode without them (`44_bc7.md` R197). -/
theorem readWidths_secondary {d : Mode7} {b : BitVec 128} {p : Nat} (h : p + offsetOf (secondaryWidth d) 16 ≤ 128) :
    Cursor.readWidths (secondaryWidths d) ⟨b, p⟩ =
      some (if d.ib2 = 0 then [] else
          (List.range 16).map (streamValue (secondaryWidth d) (bitsAt b p (offsetOf (secondaryWidth d) 16))),
        ⟨b, p + offsetOf (secondaryWidth d) 16⟩) := by
  by_cases h₀ : d.ib2 = 0
  · rw [← secondaryWidths_sum, if_pos h₀, secondaryWidths, if_pos h₀]
    rfl
  · rw [secondaryWidths_eq h₀, readWidths_stream h, if_neg h₀]

/-- A read that answers, and what comes after it. -/
theorem bind_of_some {α β : Type} {x : Option α} {a : α} (h : x = some a) (k : α → Option β) : (x >>= k) = k a := by
  rw [h]
  rfl

/-- Fields that lie inside the block are read to their end (`44_bc7.md` R190, R193). -/
theorem readFields7_of_fits {d : Mode7} {b : BitVec 128} (h : bitsUsed d (operandsAt d b).shape ≤ 128) :
    readFields7 d ⟨b, d.m + 1⟩ = some (fieldsOf d (operandsAt d b)) := by
  have hbits : d.m + 1 + d.pbw + d.rb + d.isb + d.ne * d.prec.r + d.ne * d.prec.g + d.ne * d.prec.b + d.ne * d.prec.a +
      d.np * 1 + offsetOf (primaryWidth d (bitsAt b (d.m + 1) d.pbw)) 16 + offsetOf (secondaryWidth d) 16 ≤ 128 := by
    rw [Nat.mul_one]
    exact h
  -- In the order of R193: shape, rotation, index mode; the four channels; P-bits; primary and secondary indices.
  refine (bind_of_some (readBits_at ?_) _).trans <| (bind_of_some (readBits_at ?_) _).trans <|
    (bind_of_some (readBits_at ?_) _).trans <|
    (bind_of_some (readWidths_groups ?_) _).trans <| (bind_of_some (readWidths_groups ?_) _).trans <|
    (bind_of_some (readWidths_groups ?_) _).trans <| (bind_of_some (readWidths_groups ?_) _).trans <|
    (bind_of_some (readWidths_groups ?_) _).trans <|
    (bind_of_some (readWidths_primary ?_) _).trans <| (bind_of_some (readWidths_secondary ?_) _).trans ?fields
  case fields =>
    simp only [Nat.mul_one]
    rfl
  all_goals omega

/-- Fields that were read to their end lie inside the block. -/
theorem bitsUsed_le_of_readFields7 {d : Mode7} {b : BitVec 128} {f : Fields7} (hm : d.m < 128)
    (h : readFields7 d ⟨b, d.m + 1⟩ = some f) : bitsUsed d (operandsAt d b).shape ≤ 128 := by
  obtain ⟨hpos, -⟩ := readFields7_shape h hm
  simp only [readFields7, Option.bind_eq_bind, Option.bind_eq_some_iff, Option.some.injEq, Prod.exists] at h
  obtain ⟨shape, c₁, h₁, rot, c₂, h₂, isel, c₃, h₃, r, c₄, h₄, g, c₅, h₅, bl, c₆, h₆, a, c₇, h₇, pb, c₈, h₈, i1, c₉, h₉,
    i2, c₁₀, h₁₀, rfl⟩ := h
  obtain ⟨rfl, rfl, -⟩ := Cursor.readBits_cases h₁
  obtain ⟨-, rfl, -⟩ := Cursor.readBits_cases h₂
  obtain ⟨-, rfl, -⟩ := Cursor.readBits_cases h₃
  have hend := readWidths_pos h₁₀
  rw [readWidths_pos h₉, readWidths_pos h₈, readWidths_pos h₇, readWidths_pos h₆, readWidths_pos h₅, readWidths_pos h₄,
    primaryWidths_sum, secondaryWidths_sum] at hend
  simp only [List.sum_replicate, smul_eq_mul, Nat.mul_one] at hend
  exact (hend ▸ hpos : _ ≤ 128)

/-- The operands of a mode by position: four channels, and as many index bits as R197 gives. -/
theorem operandsAt_eq {d : Mode7} (hd : d ∈ modes7) (b : BitVec 128) : operandsAt d b =
    { shape := bitsAt b (d.m + 1) d.pbw
      rot := bitsAt b (d.m + 1 + d.pbw) d.rb
      isel := bitsAt b (d.m + 1 + d.pbw + d.rb) d.isb
      chan := chans (bitsAt b (chanPos d 0) (d.ne * d.prec.r)) (bitsAt b (chanPos d 1) (d.ne * d.prec.g))
        (bitsAt b (chanPos d 2) (d.ne * d.prec.b)) (bitsAt b (chanPos d 3) (d.ne * d.prec.a))
      pbits := bitsAt b (pbitPos d) d.np
      primary := bitsAt b (pbitPos d + d.np) (16 * d.ib - d.ns)
      secondary := bitsAt b (pbitPos d + d.np + (16 * d.ib - d.ns)) (16 * d.ib2 - 1) } := by
  have hchan : (fun c => bitsAt b (chanPos d c) (d.ne * d.prec.chan c)) =
      chans (bitsAt b (chanPos d 0) (d.ne * d.prec.r)) (bitsAt b (chanPos d 1) (d.ne * d.prec.g))
        (bitsAt b (chanPos d 2) (d.ne * d.prec.b)) (bitsAt b (chanPos d 3) (d.ne * d.prec.a)) := by
    funext c
    match c with
    | 0 | 1 | 2 => rfl
    | c + 3 => simp [chans, chanPos, Rgba.chan]
  have hsec : offsetOf (secondaryWidth d) 16 = 16 * d.ib2 - 1 := by
    have h := secondaryBits d
    rw [secondaryWidths_sum] at h
    split at h <;> omega
  simp only [operandsAt, secondaryPos, primaryBits hd (bitsAt_lt ..), hsec, hchan]

/-- The operands of a block are what stands at their positions (`30_encoding.md` R82). -/
theorem operands7_splitBc7 {b : BitVec 128} {d : Mode7} {o : Operands7} (h : operands7 (splitBc7 b) = some (d, o)) :
    o = operandsAt d b := by
  unfold splitBc7 at h
  split_ifs at h
  all_goals
    simp only [operands7, Option.some.injEq, Prod.mk.injEq, reduceCtorEq, toNat_extractLsb'_eq_bitsAt] at h
  all_goals
    obtain ⟨rfl, rfl⟩ := h
    rw [operandsAt_eq (by simp [modes7])]
    simp [bitsAt_zero, chanPos, chans, pbitPos, endpointPos, Mode7.ne, mode7M0, mode7M1, mode7M2, mode7M3, mode7M4,
      mode7M5, mode7M6, mode7M7]

end Sys2Proof.Proofs
end

section
/-! ## The BC7 codec

A mode of the table takes exactly 128 bits, so its block is decoded from its operands: endpoints merged with their P-bits and
replicated to 8 bits, two weights per pixel, and the rotation. The reserved block and a block that needs more than 128 bits
are the fallback tile. -/

namespace Sys2Proof.Proofs

open Sys2Proof.Machine Sys2Proof.Claims

/-! ### The bits of a mode -/

/-- A mode takes the whole block (`44_bc7.md` R201). -/
theorem bitsUsed_eq {d : Mode7} (hd : d ∈ modes7) {shape : Nat} (hs : shape < 2 ^ d.pbw) : bitsUsed d shape = 128 := by
  obtain ⟨-, -, -, hbits⟩ := modes7_bits d hd
  have hprim := primaryBits hd hs
  have hsec := secondaryBits d
  have hns : d.ns ≤ 16 * d.ib := (by decide : ∀ d ∈ modes7, d.ns ≤ 16 * d.ib) d hd
  rw [secondaryWidths_sum] at hsec
  rw [bitsUsed, secondaryPos, pbitPos_eq]
  omega

/-- Settles O23: the widths of R201 counted mode by mode, those of the primary indices from the fix-up pixels. -/
theorem bc7ModesUse128Bits : Obligations.Bc7ModesUse128Bits := by
  have hsum : ∀ d ∈ modes7, (d.m + 1) + d.pbw + d.rb + d.isb + 2 * d.ns * (d.prec.r + d.prec.g + d.prec.b + d.prec.a) +
      d.np + (16 * d.ib - d.ns) + (if 0 < d.ib2 then 16 * d.ib2 - 1 else 0) = 128 := by decide
  exact ⟨rfl, fun d hd _ hs => ⟨hsum d hd, primaryBits hd hs⟩⟩

/-- The fields of a mode are read to their end (`44_bc7.md` R190, R201). -/
theorem readFields7_of_mode {d : Mode7} (hd : d ∈ modes7) (b : BitVec 128) :
    readFields7 d ⟨b, d.m + 1⟩ = some (fieldsOf d (operandsAt d b)) :=
  readFields7_of_fits (bitsUsed_eq hd (bitsAt_lt ..)).le

/-- Only blocks of BC7 have its operands. -/
theorem stream_of_operands7 {i : Instr} {d : Mode7} {o : Operands7} (h : operands7 i = some (d, o)) :
    i.stream = .block .bc7 := by
  cases i <;> simp only [operands7, reduceCtorEq] at h <;> rfl

/-- A block in a valid mode runs that mode on its own bits, where its operands stand at their positions (`30_encoding.md`
R82). -/
theorem exec_of_operands7 {i : Instr} {d : Mode7} {o : Operands7} (h : operands7 i = some (d, o)) :
    d ∈ modes7 ∧ exec i = runBc7 d (block i) ∧ o = operandsAt d (block i) := by
  have hstream := stream_of_operands7 h
  have hword : i.word = (block i).toNat := by
    have hlt : i.word < 2 ^ 128 := word_lt_of_block hstream
    rw [block, BitVec.toNat_ofNat, Nat.mod_eq_of_lt hlt]
  refine ⟨(execInner_of_operands7 h).1, ?_, operands7_splitBc7 ((splitBc7_of_word hstream hword).symm ▸ h)⟩
  cases i <;> simp only [operands7, Option.some.injEq, Prod.mk.injEq, reduceCtorEq] at h <;> obtain ⟨rfl, -⟩ := h
  all_goals
    funext s
    rw [block, Instr.word, BitVec.ofNat_toNat, BitVec.setWidth_eq]
    rfl

/-! ### Endpoints -/

/-- `UNQ7` as the rule writes it (`44_bc7.md` R195). -/
theorem unq7_eq_or (p v : Nat) : unq7 p v = if p = 0 then 255 else v * 2 ^ (8 - p) ||| v * 2 ^ (8 - p) / 2 ^ p := by
  simp only [unq7, Nat.shiftLeft_eq, Nat.shiftRight_eq_div_pow]

/-- A value of at most 8 bits, shifted up to 8 bits. -/
theorem shifted_lt {p v : Nat} (hp : p ≤ 8) (hv : v < 2 ^ p) : v * 2 ^ (8 - p) < 2 ^ 8 := by
  calc v * 2 ^ (8 - p) < 2 ^ p * 2 ^ (8 - p) := Nat.mul_lt_mul_of_pos_right hv (by positivity)
    _ = 2 ^ 8 := by rw [← pow_add, Nat.add_sub_cancel' hp]

/-- An unquantised value is a byte (`44_bc7.md` R195). -/
theorem unq7_lt {p v : Nat} (hp : p ≤ 8) (hv : v < 2 ^ p) : unq7 p v < 2 ^ 8 := by
  rw [unq7_eq_or]
  split
  · decide
  · have hlt := shifted_lt hp hv
    exact Nat.or_lt_two_pow hlt ((Nat.div_le_self _ _).trans_lt hlt)

/-- The copy of the top bits lies below the shifted value (`44_bc7.md` R195). -/
theorem unq7_eq_add {p v : Nat} (h₀ : p ≠ 0) (hp : p ≤ 8) (hv : v < 2 ^ p) :
    unq7 p v = v * 2 ^ (8 - p) + v * 2 ^ (8 - p) / 2 ^ p := by
  have hlow : v * 2 ^ (8 - p) / 2 ^ p < 2 ^ (8 - p) := by
    rw [Nat.div_lt_iff_lt_mul (by positivity), ← pow_add, Nat.sub_add_cancel hp]
    exact shifted_lt hp hv
  rw [unq7_eq_or, if_neg h₀]
  rw [Nat.mul_comm] at hlow ⊢
  rw [Nat.two_pow_add_eq_or_of_lt hlow]

/-- The precisions of the modes: alpha of modes 0 to 3 has no bits, a P-bit adds one bit, and only where the mode has P-bits
(`44_bc7.md` R191, R194, R195). -/
theorem modes7_precision : ∀ d ∈ modes7, ∀ c < 4, (d.precP.chan c = 0 ↔ c = 3 ∧ d.m ≤ 3) ∧
    (d.precP.chan c ≠ 0 → 4 ≤ d.precP.chan c ∧ d.precP.chan c ≤ 8) ∧
    (d.prec.chan c ≠ d.precP.chan c → 0 < d.np ∧ d.precP.chan c = d.prec.chan c + 1) := by decide

/-- Settles O28: the sum of the shifted value and its top bits, and the precisions of the modes. -/
theorem unq7ReplicatesBits : Obligations.Unq7ReplicatesBits := by
  refine ⟨fun _ => rfl, fun p v h₄ h₈ hv => ⟨unq7_eq_add (by omega) h₈ hv, Nat.le_of_lt_succ (unq7_lt h₈ hv), ?_⟩,
    fun d hd c hc => ?_, by decide, by decide, by decide, by decide⟩
  · rintro rfl
    rw [unq7_eq_add (by decide) h₈ hv, Nat.sub_self, pow_zero, Nat.mul_one, Nat.div_eq_of_lt hv, Nat.add_zero]
  · obtain ⟨hzero, hbits, -⟩ := modes7_precision d hd c hc
    exact ⟨hzero, hbits⟩

theorem endpoint7_chan (d : Mode7) (f : Fields7) (e : Nat) {c : Nat} (hc : c < 4) : (endpoint7 d f e).chan c =
    unq7 (d.precP.chan c)
      (mergePbit d.np (d.prec.chan c) (d.precP.chan c) (pbitOf d f.pb e) ((f.chans.chan c).getD e 0)) := by
  interval_cases c <;> rfl

theorem fieldsOf_chan (d : Mode7) (o : Operands7) {c : Nat} (hc : c < 4) :
    (fieldsOf d o).chans.chan c = (List.range d.ne).map (group (o.chan c) (d.prec.chan c)) := by
  interval_cases c <;> rfl

/-- An endpoint of the statements is the unquantised value of its group of bits, with its P-bit (`44_bc7.md` R194, R195). -/
theorem endpointValue7_eq_unq7 (d : Mode7) (o : Operands7) (e c : Nat) : endpointValue7 d o e c =
    unq7 (d.precP.chan c) (if d.prec.chan c ≠ d.precP.chan c then
      2 * group (o.chan c) (d.prec.chan c) e + group o.pbits 1 (e * d.np / d.ne) else group (o.chan c) (d.prec.chan c) e) :=
  (unq7_eq_or _ _).symm

theorem group_lt (v w k : Nat) : group v w k < 2 ^ w := Nat.mod_lt _ (by positivity)

/-- An endpoint of a mode is a byte (`44_bc7.md` R195). -/
theorem endpointValue7_lt {d : Mode7} (hd : d ∈ modes7) (o : Operands7) (e : Nat) {c : Nat} (hc : c < 4) :
    endpointValue7 d o e c < 2 ^ 8 := by
  obtain ⟨-, hbits, hpbit⟩ := modes7_precision d hd c hc
  have hv := group_lt (o.chan c) (d.prec.chan c) e
  have hp := group_lt o.pbits 1 (e * d.np / d.ne)
  rw [endpointValue7_eq_unq7]
  refine unq7_lt (by omega) ?_
  split
  · rename_i hne
    rw [(hpbit hne).2, pow_succ]
    omega
  · rename_i heq
    rwa [← not_not.1 heq]

/-- The endpoints of a block by operands (`44_bc7.md` R193-R195). -/
theorem endpoint7_fieldsOf {d : Mode7} (hd : d ∈ modes7) (b : BitVec 128) (e : Nat) {c : Nat} (hc : c < 4) :
    (endpoint7 d (fieldsOf d (operandsAt d b)) e).chan c = endpointValue7 d (operandsAt d b) e c := by
  have hvalue : ((List.range d.ne).map (group ((operandsAt d b).chan c) (d.prec.chan c))).getD e 0 =
      group ((operandsAt d b).chan c) (d.prec.chan c) e := getD_map_group (bitsAt_lt ..) e
  have hpbit : pbitOf d (fieldsOf d (operandsAt d b)).pb e = group (operandsAt d b).pbits 1 (e * d.np / d.ne) :=
    getD_map_group (by rw [Nat.mul_one]; exact bitsAt_lt ..) _
  have hmerge : (0 < d.np ∧ d.prec.chan c ≠ d.precP.chan c) ↔ d.prec.chan c ≠ d.precP.chan c := by
    obtain ⟨-, -, hnp⟩ := modes7_precision d hd c hc
    exact ⟨And.right, fun h => ⟨(hnp h).1, h⟩⟩
  rw [endpoint7_chan _ _ _ hc, fieldsOf_chan _ _ hc, hvalue, hpbit, endpointValue7_eq_unq7]
  simp only [mergePbit, hmerge]

/-! ### Pixels -/

/-- Pixel `i` before rotation (`44_bc7.md` R196, R198, R199). -/
def blended7 (d : Mode7) (o : Operands7) (i c : Nat) : Byte := BitVec.ofNat 8 (blend7 d o i c)

/-- Rotation by channel: alpha swapped with red, green or blue (`44_bc7.md` R200). -/
theorem bytes_rotate7 {rot : Nat} (hrot : rot < 4) (x : Nat → Byte) : (rotate7 rot ⟨x 0, x 1, x 2, x 3⟩).bytes =
    (List.range 4).map fun c => x (if rot = 0 then c else if c = 3 then rot - 1 else if c = rot - 1 then 3 else c) := by
  interval_cases rot <;> rfl

/-- The weight of a channel: alpha and colour take different indices in a mode with two (`44_bc7.md` R198). -/
theorem weight_by_channel {o : Operands7} (hisel : o.isel < 2) (d : Mode7) (i c : Nat) :
    (if takesSecondary d o c = true then weight d.ib2 (secondaryIndex d o i) else weight d.ib (primaryIndex d o i)) =
      if c = 3 then alphaWeight d o.isel (primaryIndex d o i) (secondaryIndex d o i)
      else colourWeight d o.isel (primaryIndex d o i) (secondaryIndex d o i) := by
  obtain h | h : o.isel = 0 ∨ o.isel = 1 := by omega
  all_goals
    by_cases h₀ : d.ib2 = 0
    all_goals
      by_cases hc : c = 3
      all_goals simp [alphaWeight, colourWeight, takesSecondary, h, h₀, hc]

/-- Without secondary indices there are no bits of them. -/
theorem secondaryIndex_of_none {d : Mode7} (h : d.ib2 = 0) (o : Operands7) (i : Nat) : secondaryIndex d o i = 0 := by
  rw [secondaryIndex, secondaryWidth, h, Nat.zero_sub, pow_zero, Nat.mod_one]

/-- The primary index of a pixel (`44_bc7.md` R197). -/
theorem getD_i1_fieldsOf (d : Mode7) (b : BitVec 128) (i : Nat) :
    (fieldsOf d (operandsAt d b)).i1.getD i 0 = primaryIndex d (operandsAt d b) i :=
  getD_map_streamValue (bitsAt_lt ..) i

/-- The secondary index of a pixel (`44_bc7.md` R197). -/
theorem getD_i2_fieldsOf (d : Mode7) (b : BitVec 128) (i : Nat) :
    (fieldsOf d (operandsAt d b)).i2.getD i 0 = secondaryIndex d (operandsAt d b) i := by
  by_cases h : d.ib2 = 0
  · simp [fieldsOf, h, secondaryIndex_of_none]
  · simp only [fieldsOf, if_neg h]
    exact getD_map_streamValue (bitsAt_lt ..) i

/-- SHAPE, ROT, ISEL and the indices of every mode fit their registers (`44_bc7.md` R191, `10_state.md` R37). -/
theorem modes7_registers : ∀ d ∈ modes7, d.pbw ≤ 6 ∧ d.rb ≤ 2 ∧ d.isb ≤ 1 ∧ d.ib ≤ 4 ∧ d.ib2 ≤ 3 := by decide

/-- A field of at most `m` bits is below `2 ^ m`. -/
theorem bitsAt_lt_of_le {n m : Nat} (h : n ≤ m) (b : BitVec 128) (p : Nat) : bitsAt b p n < 2 ^ m :=
  (bitsAt_lt b p n).trans_le (Nat.pow_le_pow_right (by decide) h)

/-- The pixel the fields give is the rotated pixel of the operands (`44_bc7.md` R196, R198-R200). -/
theorem pixel7_fieldsOf {d : Mode7} (hd : d ∈ modes7) (b : BitVec 128) (i : Nat) :
    (pixel7 d (fieldsOf d (operandsAt d b)) i).bytes = (List.range 4).map (pixelByte7 d (operandsAt d b) i) := by
  obtain ⟨-, hrb, hisb, -⟩ := modes7_registers d hd
  have hrot : (operandsAt d b).rot < 4 := bitsAt_lt_of_le hrb b _
  have hisel : (operandsAt d b).isel < 2 := bitsAt_lt_of_le hisb b _
  have hend (e : Nat) : endpoint7 d (fieldsOf d (operandsAt d b)) e =
      ⟨endpointValue7 d (operandsAt d b) e 0, endpointValue7 d (operandsAt d b) e 1,
       endpointValue7 d (operandsAt d b) e 2, endpointValue7 d (operandsAt d b) e 3⟩ :=
    (Rgba.mk.injEq ..).mpr ⟨endpoint7_fieldsOf hd b e (c := 0) (by decide), endpoint7_fieldsOf hd b e (c := 1) (by decide),
      endpoint7_fieldsOf hd b e (c := 2) (by decide), endpoint7_fieldsOf hd b e (c := 3) (by decide)⟩
  have hpixel : pixel7 d (fieldsOf d (operandsAt d b)) i = rotate7 (operandsAt d b).rot
      ⟨blended7 d (operandsAt d b) i 0, blended7 d (operandsAt d b) i 1, blended7 d (operandsAt d b) i 2,
       blended7 d (operandsAt d b) i 3⟩ := by
    simp only [pixel7, hend, getD_i1_fieldsOf, getD_i2_fieldsOf, blended7, blend7, weight_by_channel hisel]
    rfl
  rw [hpixel]
  exact bytes_rotate7 hrot (blended7 d (operandsAt d b) i)

/-! ### Blocks -/

/-- A block in a mode of the table: all its fields are there, so its sixteen pixels are decoded (`44_bc7.md` R190). -/
theorem runBc7_eq {d : Mode7} (hd : d ∈ modes7) (b : BitVec 128) (s : State) : runBc7 d b s =
    finishBlock .bc7 ⟨pixelNos.map fun i => (pixel7 d (fieldsOf d (operandsAt d b)) i).bytes, false⟩
      (setScratch7 d (fieldsOf d (operandsAt d b)) (setMode7 d.m (d.m + 1) s)) := by
  simp only [runBc7, readFields7_of_mode hd]
  rfl

/-- A register of a bank that is overwritten. -/
theorem getElem?_overwrite {α : Type} (bank : List α) (g : Nat → α) {n k : Nat} (hk : k < n) :
    (overwrite bank ((List.range n).map g))[k]? = some (g k) := by
  rw [overwrite, List.getElem?_append_left (by simpa using hk)]
  simp [hk]

/-- A register that is overwritten by a number it can hold. -/
theorem toNat_overwrite {w : Nat} (bank : List (BitVec w)) (g : Nat → Nat) {n k : Nat} (hk : k < n) (hg : g k < 2 ^ w) :
    ((overwrite bank (((List.range n).map g).map (BitVec.ofNat w)))[k]?).map BitVec.toNat = some (g k) := by
  rw [List.map_map, getElem?_overwrite bank _ hk, Option.map_some, Function.comp_apply, BitVec.toNat_ofNat,
    Nat.mod_eq_of_lt hg]

theorem chan_map {α β : Type} (f : α → β) (x : Rgba α) {c : Nat} (hc : c < 4) : (x.map f).chan c = f (x.chan c) := by
  interval_cases c <;> rfl

/-- An index is at most as wide as its register (`44_bc7.md` R197). -/
theorem primaryIndex_lt {d : Mode7} {n : Nat} (h : d.ib ≤ n) (o : Operands7) (j : Nat) : primaryIndex d o j < 2 ^ n :=
  (Nat.mod_lt _ (by positivity)).trans_le (Nat.pow_le_pow_right (by decide) (by unfold primaryWidth; omega))

theorem secondaryIndex_lt {d : Mode7} {n : Nat} (h : d.ib2 ≤ n) (o : Operands7) (j : Nat) : secondaryIndex d o j < 2 ^ n :=
  (Nat.mod_lt _ (by positivity)).trans_le (Nat.pow_le_pow_right (by decide) (by unfold secondaryWidth; omega))

/-- Settles O24: the tile of the operands, and each register the field it is written with. -/
theorem bc7BlockDecodes : Obligations.Bc7BlockDecodes := by
  intro i d o s hi hfit
  obtain ⟨hd, hexec, rfl⟩ := exec_of_operands7 hi
  obtain ⟨hpbw, hrb, hisb, hib, hib2⟩ := modes7_registers d hd
  rw [hexec, runBc7_eq hd]
  obtain ⟨t, ht, hdone, hscratch⟩ := finishBlock_map (f := .bc7) (s := s)
    (u := setScratch7 d (fieldsOf d (operandsAt d (block i))) (setMode7 d.m (d.m + 1) s)) rfl
    (pixel7_fieldsOf hd (block i)) hfit
  refine ⟨t, ht, hdone, ?_⟩
  rw [hscratch]
  refine ⟨?_, rfl, ?_, ?_, ?_, fun e he c hc => ?_, fun k hk => ?_, fun j hj => ?_, fun h₀ j hj => ?_⟩
  · have hpos : (fieldsOf d (operandsAt d (block i))).pos = 128 := bitsUsed_eq hd (bitsAt_lt ..)
    simp [setScratch7, hpos]
  · exact Nat.mod_eq_of_lt (bitsAt_lt_of_le hpbw _ _)
  · exact Nat.mod_eq_of_lt (bitsAt_lt_of_le hrb _ _)
  · exact Nat.mod_eq_of_lt (bitsAt_lt_of_le hisb _ _)
  · refine (congrArg _ (getElem?_overwrite _ _ he)).trans ?_
    rw [Option.map_some, chan_map _ _ hc, endpoint7_fieldsOf hd _ _ hc, BitVec.toNat_ofNat,
      Nat.mod_eq_of_lt (endpointValue7_lt hd _ _ hc)]
  · exact toNat_overwrite _ _ hk (group_lt ..)
  · exact toNat_overwrite _ _ hj (primaryIndex_lt hib ..)
  · have hi2 : (fieldsOf d (operandsAt d (block i))).i2 = (List.range 16).map (secondaryIndex d (operandsAt d (block i))) :=
      if_neg h₀
    simp only [setScratch7, hi2]
    exact toNat_overwrite _ _ hj (secondaryIndex_lt hib2 ..)

/-! ### Alpha of modes 0 to 3 -/

/-- A table gives at every position a value its entries bound. -/
theorem getD_le {l : List Nat} {m : Nat} (hl : ∀ v ∈ l, v ≤ m) (k : Nat) : l.getD k 0 ≤ m := by
  rcases Nat.lt_or_ge k l.length with hk | hk
  · rw [List.getD_eq_getElem _ _ hk]
    exact hl _ (List.getElem_mem hk)
  · rw [List.getD_eq_default _ _ hk]
    exact Nat.zero_le m

/-- No weight is above 64 (`45_shared_tables.md` R228). -/
theorem weight_le (b idx : Nat) : weight b idx ≤ 64 := by
  unfold weight weights
  split
  · exact getD_le (by decide) idx
  · split <;> exact getD_le (by decide) idx

/-- A channel without bits is 255 in every pixel (`44_bc7.md` R195, R199). -/
theorem blend7_of_no_bits {d : Mode7} {c : Nat} (h : d.precP.chan c = 0) (o : Operands7) (i : Nat) :
    blend7 d o i c = 255 := by
  have hend (e : Nat) : endpointValue7 d o e c = 255 := if_pos h
  unfold blend7
  dsimp only
  rw [hend, hend]
  split
  · have hw := weight_le d.ib2 (secondaryIndex d o i)
    omega
  · have hw := weight_le d.ib (primaryIndex d o i)
    omega

/-- Settles O27: modes 0 to 3 have no alpha bits and no rotation. -/
theorem bc7ModesWithoutAlphaAreOpaque : Obligations.Bc7ModesWithoutAlphaAreOpaque := by
  intro i d o s t hi hm ht j hj
  obtain ⟨hd, hexec, rfl⟩ := exec_of_operands7 hi
  have hrb : d.rb = 0 := (by decide : ∀ d ∈ modes7, d.m ≤ 3 → d.rb = 0) d hd hm
  have hrot : (operandsAt d (block i)).rot = 0 := by
    rw [operandsAt_eq hd, hrb]
    exact bitsAt_zero _ _
  have halpha : d.precP.chan 3 = 0 := (modes7_precision d hd 3 (by decide)).1.2 ⟨rfl, hm⟩
  have hbyte : pixelByte7 d (operandsAt d (block i)) j 3 = 255 := by
    rw [pixelByte7, if_pos hrot, blend7_of_no_bits halpha]
    rfl
  rw [hexec, runBc7_eq hd] at ht
  obtain ⟨-, -, -, -, rfl⟩ := finishBlock_cases ht
  simp [pixelNos, hj, pixel7_fieldsOf hd, hbyte]

/-! ### The fallback tile -/

/-- The fallback tile of BC7 (`44_bc7.md` R192). -/
theorem tilePixel_fallback7 : ∀ i < 16, ∀ c < outBytes .bc7, tilePixel (blockError config.bc7Err []) i c = 0 := by decide

/-- A block is reserved exactly when its byte 0 is 0: by R81 no other row has the match 0. -/
theorem reserved_iff_byte_zero {bs : List Byte} (hlen : bs.length = 16) :
    (∃ x, decode (.block .bc7) bs = .ok (.bc7Rsv x, [])) ↔ bs.getD 0 0 = 0 := by
  obtain ⟨-, hrows, -⟩ := modeFieldSelectsInstruction
  constructor
  · rintro ⟨x, hx⟩
    obtain ⟨mask, m, hrow, hm⟩ := hrows bs _ hx
    obtain ⟨rfl, rfl⟩ : 0xFF = mask ∧ 0x00 = m := by simpa [row7] using hrow
    exact BitVec.and_allOnes.symm.trans hm
  · intro hzero
    obtain ⟨i, hi⟩ := decodeBlk_ok (f := .bc7) (by decide) (leNat bs)
    have hdecode : decode (.block .bc7) bs = .ok (i, []) := decode_exact hlen hi
    obtain ⟨mask, m, hrow, hm⟩ := hrows bs i hdecode
    obtain rfl : 0 = m := BitVec.zero_and.symm.trans (hzero ▸ hm)
    cases i <;> simp [row7] at hrow
    exact ⟨_, hdecode⟩

/-- Settles O25: by the row of its byte 0, and the fallback tile stored. -/
theorem bc7ReservedBlockFallsBack : Obligations.Bc7ReservedBlockFallsBack :=
  ⟨fun _ => reserved_iff_byte_zero, fun _ s hfit =>
    finishBlock_of_tile (v := setMode7 8 8 s) rfl (fullTile_blockError rfl _) tilePixel_fallback7 hfit⟩

/-- The bits a block needs, as R201 adds them up. -/
theorem bitsUsed_eq_sum (d : Mode7) (shape : Nat) : bitsUsed d shape =
    (d.m + 1) + d.pbw + d.rb + d.isb + 2 * d.ns * (d.prec.r + d.prec.g + d.prec.b + d.prec.a) + d.np +
      (primaryWidths d shape).sum + (secondaryWidths d).sum := by
  rw [bitsUsed, secondaryPos, pbitPos_eq, primaryWidths_sum, secondaryWidths_sum, Mode7.ne]

/-- Settles O26: the fields are read to their end exactly when they lie inside the block. -/
theorem bc7OverrunFillsAllPixels : Obligations.Bc7OverrunFillsAllPixels := by
  intro d b s hm hfit
  dsimp only
  rw [← bitsUsed_eq_sum]
  refine ⟨fun hover => ?_, fun hbits => ?_⟩
  · have hread : readFields7 d ⟨b, d.m + 1⟩ = none :=
      Option.eq_none_iff_forall_ne_some.2 fun f hf => hover.not_ge (bitsUsed_le_of_readFields7 hm hf)
    obtain ⟨t, ht, hdone, -⟩ := finishBlock_of_tile (v := setMode7 d.m (d.m + 1) s) rfl
      (fullTile_blockError rfl config.bc7Err) tilePixel_fallback7 hfit
    exact ⟨t, by simpa only [runBc7, hread] using ht, hdone⟩
  · have hread := readFields7_of_fits (b := b) hbits
    have hfull : FullTile .bc7 false ⟨pixels7 d (fieldsOf d (operandsAt d b)), false⟩ := fullTile_map fun _ => rfl
    obtain ⟨t, ht, -, hdone⟩ := finishBlock_done hfull hfit
      (setScratch7 d (fieldsOf d (operandsAt d b)) (setMode7 d.m (d.m + 1) s)).scratch
    refine ⟨t, ?_, ?_⟩
    · simp only [runBc7, hread]
      exact ht
    · simpa using congrArg State.blkErr hdone.rest

end Sys2Proof.Proofs
end

section
/-! ## The shared tables

A fix-up pixel lies in its own region, so that the list of fix-up pixels names a pixel of every region. An interpolated value
is a weighted mean, rounded to the nearest integer. -/

namespace Sys2Proof.Proofs

open Sys2Proof.Machine

/-! ### Partitions and fix-up pixels -/

/-- The fix-up pixel of region `r` lies in region `r` (`45_shared_tables.md` R230 (a), (d)): region 0's is pixel 0, the others'
are the ones of the fix-up tables. -/
theorem region_fixPixels : ∀ n ∈ [2, 3], ∀ s < 64, ∀ r < n, region n s ((fixPixels n s).getD r 0) = r := by decide

/-- Every region of a shape is used, by its fix-up pixel if by no other (`45_shared_tables.md` R230 (b)). -/
theorem exists_pixel_of_region {n s r : Nat} (hn : n ∈ [2, 3]) (hs : s < 64) (hr : r < n) : ∃ i < 16, region n s i = r := by
  obtain ⟨-, hlt, hlen⟩ := fixPixels_nodup (Or.inr (by simpa using hn)) hs
  have hmem : (fixPixels n s).getD r 0 ∈ fixPixels n s := by
    rw [← List.getElem_eq_getD (h := hr.trans_eq hlen.symm)]
    exact List.getElem_mem _
  exact ⟨_, hlt _ hmem, region_fixPixels n hn s hs r hr⟩

/-- No two shapes of a partition table agree (`45_shared_tables.md` R230 (c)). -/
theorem partitions_nodup : partition2.Nodup ∧ partition3.Nodup := by decide

/-- The fix-up pixel of the last region is pixel 15 whenever that is possible (`45_shared_tables.md` R230 (e)). -/
theorem fixPixel_last : ∀ s < 64,
    (fixA2.getD s 0 = 15 ↔ region 2 s 15 = 1) ∧ (fixA3b.getD s 0 = 15 ↔ region 3 s 15 = 2) := by decide

/-- Settles O30: (a) and (d) say that fix-up pixels lie in their regions, (b) follows from that, and (c) and (e) are read off the
tables. -/
theorem partitionTablesAreConsistent : Obligations.PartitionTablesAreConsistent := by
  have h₂ := region_fixPixels 2 (by decide)
  have h₃ := region_fixPixels 3 (by decide)
  refine ⟨fun s hs => ⟨h₂ s hs 0 (by decide), h₃ s hs 0 (by decide)⟩, fun s hs => ⟨fun r hr => ?_, fun r hr => ?_⟩,
    rfl, partitions_nodup.1, rfl, partitions_nodup.2,
    fun s hs => ⟨h₂ s hs 1 (by decide), h₃ s hs 1 (by decide), h₃ s hs 2 (by decide)⟩, fixPixel_last⟩
  · exact exists_pixel_of_region (by decide) hs hr
  · exact exists_pixel_of_region (by decide) hs hr

/-! ### Interpolation -/

/-- The weights of a mean of one value add up to 64 (`45_shared_tables.md` R229). -/
theorem weights_add (x : Nat) {w : Nat} (hw : w ≤ 64) : x * (64 - w) + x * w = x * 64 := by
  rw [← Nat.mul_add, Nat.sub_add_cancel hw]

/-- A lower bound of both references is one of the interpolated value. -/
theorem le_interp {l a b w : Nat} (ha : l ≤ a) (hb : l ≤ b) (hw : w ≤ 64) : l ≤ interp a b w := by
  have h₀ : l * (64 - w) ≤ a * (64 - w) := Nat.mul_le_mul_right _ ha
  have h₁ : l * w ≤ b * w := Nat.mul_le_mul_right _ hb
  have hsum := weights_add l hw
  unfold interp
  omega

/-- An upper bound of both references is one of the interpolated value: the rounding adds less than one step. -/
theorem interp_le_of_le {u a b w : Nat} (ha : a ≤ u) (hb : b ≤ u) (hw : w ≤ 64) : interp a b w ≤ u := by
  have h₀ : a * (64 - w) ≤ u * (64 - w) := Nat.mul_le_mul_right _ ha
  have h₁ : b * w ≤ u * w := Nat.mul_le_mul_right _ hb
  have hsum := weights_add u hw
  unfold interp
  omega

theorem interp_weight_zero (a b : Nat) : interp a b 0 = a := by
  unfold interp
  omega

theorem interp_weight_sixtyFour (a b : Nat) : interp a b 64 = b := by
  unfold interp
  omega

/-- Settles O29: the interpolated value keeps every bound of its two references, and the weights a fix-up index can select are the
first half of their table. -/
theorem interpolationStaysBetween : Obligations.InterpolationStaysBetween :=
  ⟨fun a b => ⟨interp_weight_zero a b, interp_weight_sixtyFour a b⟩,
    fun _ _ _ hw => ⟨le_interp (Nat.min_le_left ..) (Nat.min_le_right ..) hw,
      interp_le_of_le (Nat.le_max_left ..) (Nat.le_max_right ..) hw, rfl⟩,
    by decide, by decide, by decide⟩

end Sys2Proof.Proofs
end

section
/-! ## The record of a level

A level stores its blocks in reading order. After `n` blocks the pixels of the first `n` blocks stand in PAD, each at its own
address: a block writes the pixels of its own square alone. The trim then reads them row by row. -/

namespace Sys2Proof.Proofs

open Sys2Proof.Machine Sys2Proof.Claims

/-! ### One block that fits -/

/-- Whether the bytes of a block are those of a reserved one (`30_encoding.md` R84). -/
def reservedBytes (f : Fmt) (bs : List Byte) : Bool :=
  match decode (.block f) bs with
  | .ok (i, _) => isReserved i
  | .error _ => false

/-- BLKERR of a level, block by block (`60_exceptions.md` R274). -/
theorem levelError_eq (f : Fmt) (src : List Host.Cell) (off w h : Nat) :
    levelError f src off w h = (List.range (blockCount w h)).any fun k => reservedBytes f (blockIn f src off k) := rfl

/-- A block inside SRC whose tile fits answers: the tile of its own bytes is stored, then the walk moves on
(`41_block_iteration.md` R115, R116, R121). -/
theorem blockStep_of_fits {s : State} (hf : s.fmt ≠ .none) (hsrc : s.srcOff + blockBytes s.fmt ≤ s.srcLen)
    (hfit : TileFits s.fmt s) :
    let bs := Memory.readBytes s.src s.srcOff (blockBytes s.fmt)
    ∃ t, blockStep s = .next (advanceBlock t) ∧ BlockDone s.fmt (reservedBytes s.fmt bs) (tileByte s.fmt bs) s t := by
  intro bs
  obtain ⟨i, hdecode, hi, -, hbytes⟩ :=
    encodeReturnsDecodedWord (.block s.fmt) bs (by simpa using hf) (by simp [bs, Stream.bytes]) (by simp)
  obtain ⟨x, hfetch⟩ : ∃ x, fetchBlock s = .ok (i, { s with scratch := x }) := ⟨_, fetchBlock_of_decode hsrc hdecode⟩
  obtain ⟨t, hrun, hdone, -⟩ := everyBlockStoresItsOwnTile i s.fmt { s with scratch := x } hi hfit
  have hres : reservedBytes s.fmt bs = isReserved i := by simp only [reservedBytes, hdecode]
  rw [exec_eq_execInner (by simp [hi])] at hrun
  refine ⟨t, ?_, ?_⟩
  · simp only [blockStep, hfetch, hrun, andThen_next]
  · rw [hres, ← hbytes]
    exact ⟨hdone.pad, hdone.tile, hdone.rest⟩

/-- One more block comes after the others. -/
theorem runBlocks_succ (n : Nat) (s : State) : runBlocks (n + 1) s = andThen (runBlocks n s) blockStep := by
  induction n generalizing s with
  | zero => cases h : blockStep s <;> simp [runBlocks, h]
  | succ n ih =>
    rw [runBlocks, runBlocks, andThen_assoc]
    exact andThen_congr fun t _ => ih t

/-! ### The pixels in PAD -/

/-- The PAD address of channel `c` of pixel `(x, y)` of a level (`41_block_iteration.md` R113, R116). -/
def padAddr (stride obpp x y c : Nat) : Nat := (y * stride + x) * obpp + c

/-- Two bytes of a level stand at two addresses. -/
theorem padAddr_inj {stride obpp x y c x' y' c' : Nat} (hx : x < stride) (hx' : x' < stride) (hc : c < obpp) (hc' : c' < obpp)
    (h : padAddr stride obpp x y c = padAddr stride obpp x' y' c') : x = x' ∧ y = y' := by
  have hbyte : c + obpp * (x + stride * y) = c' + obpp * (x' + stride * y') := by
    simp only [padAddr, Nat.mul_comm _ obpp, Nat.mul_comm _ stride, Nat.add_comm (stride * _)] at h
    omega
  obtain ⟨hpixel, -⟩ := digit_unique hc hc' hbyte
  obtain ⟨hy, hx⟩ := digit_unique hx hx' hpixel
  exact ⟨hx, hy⟩

/-- Pixel `i` of the tile of block `(bx, by)` is pixel `(4 bx + i mod 4, 4 by + i div 4)` of the level
(`41_block_iteration.md` R116). -/
theorem storeAt_eq_padAddr {f : Fmt} {s : State} {bx row : Nat}
    (hoff : s.seq.outOff = (row * 4 * s.seq.stride + bx * 4) * outBytes f) (i c : Nat) :
    storeAt f s i c = padAddr s.seq.stride (outBytes f) (bx * 4 + i % 4) (row * 4 + i / 4) c := by
  rw [storeAt, hoff, padAddr]
  ring

/-- Channel `c` of pixel `(x, y)` of a level of `wide` blocks a row: the pixel of its own block's tile
(`41_block_iteration.md` R114). -/
def levelPixel (f : Fmt) (src : List Host.Cell) (off wide x y c : Nat) : Byte :=
  tileByte f (blockIn f src off (y / 4 * wide + x / 4)) (y % 4 * 4 + x % 4) c

/-- The pixels of the first `n` blocks of a level stand in PAD. -/
def Painted (f : Fmt) (src : List Host.Cell) (off wide n : Nat) (pad : List Byte) : Prop :=
  ∀ x y c, x < wide * 4 → c < outBytes f → y / 4 * wide + x / 4 < n →
    pad[padAddr (wide * 4) (outBytes f) x y c]? = some (levelPixel f src off wide x y c)

/-! ### The walk -/

/-- The walk of a level at block `n` (`41_block_iteration.md` R114). -/
def walkAt (f : Fmt) (q : Sequencer) (n : Nat) : Sequencer :=
  { q with bx := n % q.bwide, by_ := n / q.bwide, rowStart := n / q.bwide * 4 * q.stride * outBytes f,
           outOff := (n / q.bwide * 4 * q.stride + n % q.bwide * 4) * outBytes f }

/-- After block `n` the walk is at block `n + 1`. -/
theorem advanceBlock_walkAt {s : State} {q : Sequencer} {n : Nat} (hwide : 0 < q.bwide) (hs : s.seq = walkAt s.fmt q n) :
    (advanceBlock s).seq = walkAt s.fmt q (n + 1) := by
  have hn := Nat.div_add_mod n q.bwide
  have hlt := Nat.mod_lt n hwide
  rw [advanceBlock_seq, hs]
  by_cases hrow : n % q.bwide + 1 < q.bwide
  · obtain ⟨hdiv, hmod⟩ : (n + 1) / q.bwide = n / q.bwide ∧ (n + 1) % q.bwide = n % q.bwide + 1 :=
      (Nat.div_mod_unique hwide).2 ⟨by omega, hrow⟩
    rw [if_pos (by exact hrow)]
    simp only [walkAt, hdiv, hmod]
    congr 1
    ring
  · obtain ⟨hdiv, hmod⟩ : (n + 1) / q.bwide = n / q.bwide + 1 ∧ (n + 1) % q.bwide = 0 :=
      (Nat.div_mod_unique hwide).2 ⟨by rw [Nat.mul_add]; omega, hwide⟩
    rw [if_neg (by exact hrow)]
    simp only [walkAt, hdiv, hmod]
    congr 1 <;> ring

/-- Block `n` stored: its own pixels stand in PAD, and those of the blocks before it stay. -/
theorem Painted.succ {f : Fmt} {src : List Host.Cell} {off n : Nat} {q : Sequencer} {p : List Byte} {s t : State}
    (hwide : 0 < q.bwide) (hstride : q.stride = q.bwide * 4) (hseq : s.seq = walkAt f q n) (hp : s.pad = some p)
    (hpaint : Painted f src off q.bwide n p) (hstored : Stored f (tileByte f (blockIn f src off n)) s t) :
    ∃ p', t.pad = some p' ∧ p'.length = p.length ∧ Painted f src off q.bwide (n + 1) p' := by
  obtain ⟨_, p', hp₀, hp', hlen, hin, hout⟩ := hstored
  obtain rfl := Option.some.inj (hp₀.symm.trans hp)
  have haddr (i c : Nat) : storeAt f s i c =
      padAddr (q.bwide * 4) (outBytes f) (n % q.bwide * 4 + i % 4) (n / q.bwide * 4 + i / 4) c := by
    rw [← hstride, show q.stride = s.seq.stride by rw [hseq, walkAt]]
    exact storeAt_eq_padAddr (by rw [hseq, walkAt]) i c
  refine ⟨p', hp', hlen, fun x y c hx hc hk => ?_⟩
  by_cases hn : y / 4 * q.bwide + x / 4 = n
  · obtain ⟨hrow, hcol⟩ : n / q.bwide = y / 4 ∧ n % q.bwide = x / 4 :=
      (Nat.div_mod_unique hwide).2 ⟨by rw [Nat.mul_comm]; omega, by omega⟩
    have hpixel := hin (y % 4 * 4 + x % 4) (by omega) c hc
    rw [haddr, hrow, hcol, show x / 4 * 4 + (y % 4 * 4 + x % 4) % 4 = x by omega,
      show y / 4 * 4 + (y % 4 * 4 + x % 4) / 4 = y by omega] at hpixel
    rw [hpixel, levelPixel, hn]
  · rw [hout]
    · exact hpaint x y c hx hc (by omega)
    · intro i hi e he heq
      have hcol := Nat.mod_lt n hwide
      rw [haddr] at heq
      obtain ⟨hx', hy'⟩ := padAddr_inj hx (by omega) hc he heq
      refine hn ?_
      rw [show x / 4 = n % q.bwide by omega, show y / 4 = n / q.bwide by omega, Nat.div_add_mod']

/-! ### The blocks of a level -/

/-- The state of a level that started at `s` when `n` blocks are done, PAD and the scratch holding what they are given. -/
def levelState (s : State) (n : Nat) (p : List Byte) (x : Scratch) : State :=
  { s with
    pad := some p
    srcOff := s.srcOff + n * blockBytes s.fmt
    blkErr := s.blkErr || (List.range n).any fun k => reservedBytes s.fmt (blockIn s.fmt s.src s.srcOff k)
    seq := walkAt s.fmt s.seq n
    scratch := x }

/-- `n` blocks of a level that started at `s` are done. -/
def LevelAt (s : State) (n : Nat) (t : State) : Prop :=
  ∃ p x, t = levelState s n p x ∧ p.length = padSize s ∧ Painted s.fmt s.src s.srcOff s.seq.bwide n p

/-- A level that has just allocated PAD is at its first block (`41_block_iteration.md` R113). -/
theorem levelAt_allocPad (p : Phase) (s : State) : LevelAt (allocPad p s) 0 (allocPad p s) :=
  ⟨List.replicate (padSize s) 0, s.scratch, by simp [levelState, allocPad, walkAt], by simp [padSize],
    fun _ _ _ _ _ h => absurd h (Nat.not_lt_zero _)⟩

/-- Block `n` of a level has room for its tile (`60_exceptions.md` R275). -/
theorem tile_room {wide high n : Nat} (hn : n < wide * high) :
    n / wide * 4 * (wide * 4) + n % wide * 4 + (3 * (wide * 4) + 4) ≤ high * 4 * (wide * 4) := by
  have hwide : 0 < wide := Nat.pos_of_ne_zero fun h => by simp [h] at hn
  have hcol := Nat.mod_lt n hwide
  have hrow : (n / wide + 1) * wide ≤ high * wide := Nat.mul_le_mul_right _ (Nat.div_lt_of_lt_mul hn)
  rw [Nat.succ_mul] at hrow
  rw [show n / wide * 4 * (wide * 4) = n / wide * wide * 16 by ring, show high * 4 * (wide * 4) = high * wide * 16 by ring]
  omega

/-- Before its last block a level has room for the tile of the next one. -/
theorem tileFits_levelState {s : State} {n : Nat} {p : List Byte} (hstride : s.seq.stride = s.seq.bwide * 4)
    (hn : n < s.seq.bwide * s.seq.bhigh) (hlen : p.length = padSize s) (x : Scratch) :
    TileFits s.fmt (levelState s n p x) := by
  have hwide : 0 < s.seq.bwide := Nat.pos_of_ne_zero fun h => by simp [h] at hn
  have hroom := Nat.mul_le_mul_right (outBytes s.fmt) (tile_room hn)
  rw [Nat.add_mul] at hroom
  exact ⟨by simp only [levelState, walkAt]; omega, p, rfl, by
    simpa only [levelState, walkAt, hlen, padSize, hstride] using hroom⟩

/-- One more block of a level whose bytes are there. -/
theorem LevelAt.succ {s t : State} {n : Nat} (hf : s.fmt ≠ .none) (hstride : s.seq.stride = s.seq.bwide * 4)
    (hfit : s.srcOff + levelSize s ≤ s.srcLen) (hn : n < s.seq.bwide * s.seq.bhigh) (ht : LevelAt s n t) :
    ∃ u, blockStep t = .next u ∧ LevelAt s (n + 1) u := by
  obtain ⟨p, x, rfl, hlen, hpaint⟩ := ht
  have hwide : 0 < s.seq.bwide := Nat.pos_of_ne_zero fun h => by simp [h] at hn
  have hbytes : (n + 1) * blockBytes s.fmt ≤ levelSize s := Nat.mul_le_mul_right _ hn
  rw [Nat.succ_mul] at hbytes
  obtain ⟨v, hv, ⟨hstored, -, hrest⟩⟩ := blockStep_of_fits (s := levelState s n p x) hf (by simp only [levelState]; omega)
    (tileFits_levelState hstride hn hlen x)
  obtain ⟨q, hq, hqlen, hqpaint⟩ := Painted.succ hwide hstride rfl rfl hpaint hstored
  refine ⟨_, hv, q, v.scratch, ?_, hqlen.trans hlen, hqpaint⟩
  have hseq : v.seq = walkAt v.fmt s.seq n := by rw [hrest]; rfl
  rw [advanceBlock_eq, advanceBlock_walkAt hwide hseq, hrest, hq]
  simp [levelState, Nat.succ_mul, List.range_succ, Bool.or_assoc, Nat.add_assoc, blockIn]

/-- The first `n` blocks of a level whose bytes are there (`41_block_iteration.md` R114). -/
theorem runBlocks_levelAt {s : State} (hf : s.fmt ≠ .none) (hstride : s.seq.stride = s.seq.bwide * 4)
    (hfit : s.srcOff + levelSize s ≤ s.srcLen) (hs : LevelAt s 0 s) {n : Nat} (hn : n ≤ s.seq.bwide * s.seq.bhigh) :
    ∃ t, runBlocks n s = .next t ∧ LevelAt s n t := by
  induction n with
  | zero => exact ⟨s, rfl, hs⟩
  | succ n ih =>
    obtain ⟨t, ht, hat⟩ := ih (by omega)
    obtain ⟨u, hu, hnext⟩ := hat.succ hf hstride hfit hn
    exact ⟨u, by rw [runBlocks_succ, ht, andThen_next, hu], hnext⟩

/-! ### The trim -/

/-- Bytes given by group and place in the group. -/
theorem take_eq_flatMap {m w : Nat} {g : Nat → Nat → Byte} {l : List Byte}
    (h : ∀ x < w, ∀ c < m, l[x * m + c]? = some (g x c)) :
    l.take (w * m) = (List.range w).flatMap fun x => (List.range m).map (g x) := by
  induction w with
  | zero => simp
  | succ w ih =>
    have hgroup : (l.drop (w * m)).take m = (List.range m).map (g w) := by
      refine List.ext_getElem? fun c => ?_
      by_cases hc : c < m
      · simp [hc, h w (by omega) c hc]
      · simp [hc]
    rw [Nat.succ_mul, List.take_add, ih fun x hx => h x (by omega), hgroup, List.range_succ]
    simp

/-- The trim of a level whose blocks are all in PAD is its output (`41_block_iteration.md` R118). -/
theorem trim_of_painted {f : Fmt} {src : List Host.Cell} {off w h : Nat} {pad : List Byte}
    (hpaint : Painted f src off ((w + 3) / 4) (blockCount w h) pad) :
    trim pad ((w + 3) / 4 * 4) (outBytes f) w h = levelBytes f src off w h := by
  refine List.flatMap_congr fun y hy => ?_
  have hy := List.mem_range.1 hy
  refine take_eq_flatMap fun x hx c hc => ?_
  have hblock : y / 4 * ((w + 3) / 4) + x / 4 < blockCount w h := by
    have hrow : (y / 4 + 1) * ((w + 3) / 4) ≤ (h + 3) / 4 * ((w + 3) / 4) := Nat.mul_le_mul_right _ (by omega)
    rw [Nat.succ_mul] at hrow
    rw [blockCount, Nat.mul_comm ((w + 3) / 4)]
    omega
  rw [List.getElem?_drop, ← levelPixel, ← hpaint x y c (by omega) hc hblock, padAddr]
  congr 1
  ring

/-- The end of a level whose rows lie in PAD: its record, PAD discarded (`41_block_iteration.md` R118, R119). -/
theorem levelFinish_of_pad {s : State} {p : List Byte} (hp : s.pad = some p) (hw : s.lw.toNat ≤ s.seq.stride)
    (hlen : s.lh.toNat * s.seq.stride * outBytes s.fmt ≤ p.length) :
    levelFinish s = .next { s with
      outq := s.outq ++ [⟨s.level, s.lw, s.lh, s.fmt, trim p s.seq.stride (outBytes s.fmt) s.lw.toNat s.lh.toNat⟩]
      pad := none, phase := .waiting } := by
  simp only [levelFinish, hp, trim_length hw hlen, if_true]

/-! ### Levels -/

/-- The output of a level has its size (`10_state.md` R23). -/
theorem levelBytes_length (f : Fmt) (src : List Host.Cell) (off w h : Nat) :
    (levelBytes f src off w h).length = w * h * outBytes f := by
  rw [Nat.mul_comm w, Nat.mul_assoc]
  simp [levelBytes]

/-- A level whose bytes are there appends its record, whichever command runs it (`41_block_iteration.md` R114-R121). -/
theorem levelBody_appends {p : Phase} {s : State} (hp : p ≠ .waiting) (hf : s.fmt ≠ .none)
    (hfit : s.srcOff + blockCount s.lw.toNat s.lh.toNat * blockBytes s.fmt ≤ s.srcLen) :
    ∃ q x, levelBody p s = .next { s with
      outq := s.outq ++ [⟨s.level, s.lw, s.lh, s.fmt, levelBytes s.fmt s.src s.srcOff s.lw.toNat s.lh.toNat⟩]
      srcOff := s.srcOff + blockCount s.lw.toNat s.lh.toNat * blockBytes s.fmt
      blkErr := s.blkErr || levelError s.fmt s.src s.srcOff s.lw.toNat s.lh.toNat
      pad := none, phase := .waiting, seq := q, scratch := x } := by
  obtain ⟨t, ht, pad, x, rfl, hlen, hpaint⟩ := runBlocks_levelAt (s := allocPad p (setGrid s)) hf rfl hfit
    (levelAt_allocPad p (setGrid s)) (n := blockCount s.lw.toNat s.lh.toNat) le_rfl
  have hrows : s.lh.toNat * (blocksAcross s.lw.toNat * 4) * outBytes s.fmt ≤ pad.length := by
    rw [hlen]
    exact Nat.mul_le_mul_right _ (Nat.mul_le_mul_right _ (by simp [blocksAcross]; omega))
  rw [levelBody_of_fits hp hf hfit, ht, andThen_next,
    levelFinish_of_pad rfl (by simp [levelState, walkAt, blocksAcross]; omega) hrows]
  have htrim : trim pad (blocksAcross s.lw.toNat * 4) (outBytes s.fmt) s.lw.toNat s.lh.toNat =
      levelBytes s.fmt s.src s.srcOff s.lw.toNat s.lh.toNat := trim_of_painted hpaint
  rw [← htrim, levelError_eq]
  exact ⟨_, _, rfl⟩

/-- Settles O43: the level's blocks are all in PAD when it ends, and the trim reads them row by row. -/
theorem levelAppendsItsRecord : Obligations.LevelAppendsItsRecord := by
  intro s hr hf hw hh hfit
  obtain ⟨q, x, h⟩ := levelBody_appends (p := .level) (by decide) hf hfit
  rw [← execCmdLevel_of_ready hr hw hh] at h
  exact ⟨_, _, h, rfl, levelBytes_length .., rfl⟩

end Sys2Proof.Proofs
end

section
/-! ## The records of a chain

The levels of a chain come one after another from where SRC stands: a state between two levels is the starting state with the
records, SRCOFF and BLKERR of the levels done, which level `k` extends or, where its bytes are missing, replaces by the fault. -/

namespace Sys2Proof.Proofs

open Sys2Proof.Machine Sys2Proof.Claims

/-! ### Running levels one after another -/

/-- The levels of a chain in two parts, the first of which ends without a fault. -/
theorem chainLoop_add {n m k : Nat} {s t : State} (h : chainLoop n k s = .next t) (ht : t.unit ≠ .faulted) :
    chainLoop (n + m) k s = chainLoop m (k + n) t := by
  induction n generalizing k s with
  | zero =>
    obtain rfl : s = t := by simpa [chainLoop] using h
    rw [Nat.zero_add, Nat.add_zero]
  | succ n ih =>
    obtain ⟨u, hu, ⟨hf, rfl⟩ | ⟨hf, hrest⟩⟩ := chainLoop_succ_cases h
    · exact absurd hf ht
    · rw [Nat.add_right_comm, chainLoop, hu, andThen_next, if_neg hf, ih hrest, Nat.add_assoc, Nat.add_comm 1]

/-- One level of a chain. -/
theorem chainLoop_one (k : Nat) (s : State) : chainLoop 1 k s = levelBody .chain (setLevel k s) := by
  cases h : levelBody .chain (setLevel k s) <;> simp [chainLoop, h]

/-! ### The state between two levels -/

/-- A dimension of a level, as LW and LH hold it (`46_resolver.md` R253). -/
theorem mipDim_eq (w : Word) (k : Nat) : mipDim w k = BitVec.ofNat 32 (mipSize w k) := by
  rw [← toNat_mipDim, BitVec.ofNat_toNat, BitVec.setWidth_eq]

theorem chainOffset_succ (s : State) (k : Nat) :
    chainOffset s (k + 1) = chainOffset s k + chainBlocks s k * blockBytes s.fmt := by
  rw [chainOffset, offsetOf_succ_eq_add, chainOffset, Nat.add_assoc]

theorem chainOffset_mono (s : State) {j k : Nat} (h : j ≤ k) : chainOffset s j ≤ chainOffset s k :=
  Nat.add_le_add_left (offsetOf_mono _ h) _

/-- The first `k` levels of the chain of `s` are done: their records, SRCOFF and BLKERR; the registers of a level hold
anything. -/
def ChainAt (s : State) (k : Nat) (t : State) : Prop :=
  ∃ level lw lh pad phase seq scratch, t = { s with
    outq := s.outq ++ (List.range k).map (chainRecord s)
    srcOff := chainOffset s k
    blkErr := s.blkErr || chainError s k
    level := level, lw := lw, lh := lh, pad := pad, phase := phase, seq := seq, scratch := scratch }

theorem chainAt_zero (s : State) : ChainAt s 0 s :=
  ⟨s.level, s.lw, s.lh, s.pad, s.phase, s.seq, s.scratch, by simp [chainOffset, offsetOf, chainError]⟩

theorem ChainAt.unit {s t : State} {k : Nat} (h : ChainAt s k t) : t.unit = s.unit := by
  obtain ⟨_, _, _, _, _, _, _, rfl⟩ := h
  rfl

theorem ChainAt.fmt {s t : State} {k : Nat} (h : ChainAt s k t) : t.fmt = s.fmt := by
  obtain ⟨_, _, _, _, _, _, _, rfl⟩ := h
  rfl

theorem ChainAt.srcLen {s t : State} {k : Nat} (h : ChainAt s k t) : t.srcLen = s.srcLen := by
  obtain ⟨_, _, _, _, _, _, _, rfl⟩ := h
  rfl

/-- The next level ends where the chain says (`41_block_iteration.md` R112). -/
theorem ChainAt.levelEnd {s t : State} {k : Nat} (h : ChainAt s k t) :
    t.srcOff + levelSize (setGrid (setLevel k t)) = chainOffset s (k + 1) := by
  obtain ⟨_, _, _, _, _, _, _, rfl⟩ := h
  rw [levelSize_setLevel, chainOffset_succ]
  rfl

/-- The chain of `s` when level `k` has ended: LEVEL, LW and LH are its own. -/
def chainDone (s : State) (k : Nat) (q : Sequencer) (x : Scratch) : State :=
  { s with
    outq := s.outq ++ (List.range (k + 1)).map (chainRecord s)
    srcOff := chainOffset s (k + 1)
    blkErr := s.blkErr || chainError s (k + 1)
    level := BitVec.ofNat 32 k
    lw := BitVec.ofNat 32 (mipSize s.hdr.width k)
    lh := BitVec.ofNat 32 (mipSize s.hdr.height k)
    pad := none, phase := .waiting, seq := q, scratch := x }

theorem chainAt_chainDone (s : State) (k : Nat) (q : Sequencer) (x : Scratch) : ChainAt s (k + 1) (chainDone s k q x) :=
  ⟨_, _, _, _, _, _, _, rfl⟩

/-! ### The next level -/

/-- The next level of a chain, its bytes there (`46_resolver.md` R250). -/
theorem ChainAt.levelBody_of_fits {s t : State} {k : Nat} (ht : ChainAt s k t) (hf : s.fmt ≠ .none)
    (hfit : chainOffset s (k + 1) ≤ s.srcLen) : ∃ q x, levelBody .chain (setLevel k t) = .next (chainDone s k q x) := by
  rw [← ht.levelEnd, ← ht.srcLen] at hfit
  obtain ⟨q, x, h⟩ := levelBody_appends (p := .chain) (s := setLevel k t) (by decide) (ht.fmt ▸ hf) hfit
  refine ⟨q, x, h.trans ?_⟩
  obtain ⟨_, _, _, _, _, _, _, rfl⟩ := ht
  simp only [setLevel, toNat_mipDim]
  simp [chainDone, mipDim_eq, chainOffset_succ, chainBlocks, chainRecord, chainError, List.range_succ, Bool.or_assoc]

/-- A level whose bytes are not all there is its fault, whichever command runs it (`41_block_iteration.md` R112). -/
theorem levelBody_of_short {p : Phase} {s : State} (hf : s.fmt ≠ .none) (h : s.srcLen < s.srcOff + levelSize (setGrid s)) :
    levelBody p s = .next (raise .truncatedStream s.level (setGrid s)) := by
  rw [levelBody, levelStart_of_short hf h]
  rfl

/-- The first levels of a chain, their bytes there. -/
theorem chainLoop_chainAt {s : State} (hr : s.unit = .ready) (hf : s.fmt ≠ .none) {k : Nat}
    (hfit : k = 0 ∨ chainOffset s k ≤ s.srcLen) : ∃ t, chainLoop k 0 s = .next t ∧ ChainAt s k t := by
  induction k with
  | zero => exact ⟨s, rfl, chainAt_zero s⟩
  | succ k ih =>
    have hnext : chainOffset s (k + 1) ≤ s.srcLen := hfit.resolve_left (Nat.succ_ne_zero k)
    obtain ⟨t, ht, hat⟩ := ih (.inr ((chainOffset_mono s (Nat.le_succ k)).trans hnext))
    obtain ⟨q, x, hlevel⟩ := hat.levelBody_of_fits hf hnext
    refine ⟨chainDone s k q x, ?_, chainAt_chainDone s k q x⟩
    rw [chainLoop_add ht (by simp [hat.unit, hr]), Nat.zero_add, chainLoop_one, hlevel]

/-- CHAIN in READY runs its levels (`46_resolver.md` R250). -/
theorem execCmdChain_of_ready {s : State} (hr : s.unit = .ready) : execCmdChain s = chainLoop (chainLevels s) 0 s :=
  if_neg (by simp [hr])

/-- Settles O44: the levels before the last one, then the last one. -/
theorem chainAppendsItsRecords : Obligations.ChainAppendsItsRecords := by
  intro s hr hf hfit
  obtain ⟨n, hn⟩ : ∃ n, chainLevels s = n + 1 := ⟨chainLevels s - 1, by unfold chainLevels; omega⟩
  rw [hn] at hfit ⊢
  obtain ⟨t, ht, hat⟩ := chainLoop_chainAt hr hf (k := n) (.inr ((chainOffset_mono s (Nat.le_succ n)).trans hfit))
  obtain ⟨q, x, hlevel⟩ := hat.levelBody_of_fits hf hfit
  have hrun : execCmdChain s = .next (chainDone s n q x) := by
    rw [execCmdChain_of_ready hr, hn, chainLoop_add ht (by simp [hat.unit, hr]), Nat.zero_add, chainLoop_one, hlevel]
  exact ⟨_, hrun, rfl⟩

/-- Settles O45: the levels before level `k`, then the size check of level `k`. -/
theorem truncatedChainFaults : Obligations.TruncatedChainFaults := by
  intro s k hr hf hk hfit hshort
  obtain ⟨t, ht, hat⟩ := chainLoop_chainAt hr hf hfit
  obtain ⟨n, hn⟩ : ∃ n, chainLevels s = k + (n + 1) := ⟨chainLevels s - k - 1, by omega⟩
  rw [← hat.levelEnd, ← hat.srcLen] at hshort
  have hlevel := levelBody_of_short (p := .chain) (s := setLevel k t) (hat.fmt ▸ hf) hshort
  have hrun : execCmdChain s = .next (raise .truncatedStream (BitVec.ofNat 32 k) (setGrid (setLevel k t))) := by
    rw [execCmdChain_of_ready hr, hn, chainLoop_add ht (by simp [hat.unit, hr]), Nat.zero_add, chainLoop, hlevel]
    rfl
  refine ⟨_, hrun, ?_⟩
  obtain ⟨_, _, _, _, _, _, _, rfl⟩ := hat
  simp [raise, setGrid, setLevel, mipDim_eq]

end Sys2Proof.Proofs
end

section
/-! ## RESOLVE is its pseudocode

The header loads, the checks and the two dispatch maps, each as the pseudocode states it; RESOLVE is their composition. -/

namespace Sys2Proof.Proofs

open Sys2Proof.Machine Sys2Proof.Claims

/-! ### Loading the header -/

/-- A word of SRC inside SRC_LEN is loaded (`20_memory.md` R50). -/
theorem srcWord_eq_wordAt {s : State} {off : Nat} (h : off + 4 ≤ s.srcLen) : srcWord s off = some (wordAt s off) :=
  srcWord_some h

/-- With 128 bytes the header is loaded whole (`46_resolver.md` R239). -/
theorem loadHeader_eq {s : State} (h : 128 ≤ s.srcLen) : loadHeader s = some (headerIn s) := by
  have hword (off : Nat) (ho : off ≤ 124) : srcWord s off = some (wordAt s off) := srcWord_eq_wordAt (by omega)
  simp [loadHeader, hword, headerIn]

/-- With 148 bytes the extended header is loaded whole (`46_resolver.md` R243). -/
theorem loadExtHeader_eq {s : State} (h : 148 ≤ s.srcLen) : loadExtHeader s = some (extHeaderIn s) := by
  have hword (off : Nat) (ho : off ≤ 144) : srcWord s off = some (wordAt s off) := srcWord_eq_wordAt (by omega)
  simp [loadExtHeader, hword, extHeaderIn]

/-- The sentinel with an extended header in SRC. -/
theorem parseExtHeader_of_fits {s : State} (h : 148 ≤ s.srcLen) :
    parseExtHeader s = .next { s with ext := some (extHeaderIn s), phase := .xfmt } := by
  rw [parseExtHeader, if_neg (by omega), loadExtHeader_eq h]

/-- The sentinel with a truncated one. -/
theorem parseExtHeader_of_short {s : State} (h : s.srcLen < 148) :
    parseExtHeader s = .next (faulted .malformedContainer 5 s) := if_pos h

/-- Settles O35: by the length of SRC. -/
theorem dx10ParsesTheExtendedHeader : Obligations.Dx10ParsesTheExtendedHeader := fun _ =>
  ⟨parseExtHeader_of_fits, parseExtHeader_of_short⟩

/-! ### The dispatch maps -/

/-- What a dispatch map says of a code: its codec, with the payload at an offset, or that the code has none. -/
def dispatched (codec : Option Fmt) (payload : Nat) (w : Word) (s : State) : Result :=
  match codec with
  | some f => .next (resolved f payload s)
  | none => .next (faulted .unsupportedFormat w s)

/-- The rows of the FourCC table but the sentinel's follow `FOURCC_MAP` (`30_encoding.md` R73). -/
theorem fourccRows_dispatched : ∀ r ∈ fourccRows, r.1 ≠ 0x30315844 → ∀ s,
    execInner r.2 s = dispatched (fourccCodec r.1) 128 r.1 s := by
  simp only [fourccRows, List.forall_mem_cons]
  exact ⟨fun _ _ => rfl, fun _ _ => rfl, fun _ _ => rfl, fun _ _ => rfl, fun _ _ => rfl, fun _ _ => rfl, fun _ _ => rfl,
    fun _ _ => rfl, fun _ _ => rfl, fun _ _ => rfl, fun _ _ => rfl, fun h => absurd rfl h, by simp⟩

/-- The rows of the enumerant table follow `XFMT_MAP` (`30_encoding.md` R74). -/
theorem xfmtRows_dispatched : ∀ r ∈ xfmtRows, ∀ s, execInner r.2 s = dispatched (xfmtCodec r.1) 148 r.1 s := by
  simp only [xfmtRows, List.cons_append, List.nil_append, List.forall_mem_cons]
  refine ⟨?_, ?_, ?_, ?_, ?_, ?_, ?_, ?_, ?_, ?_, ?_, ?_, ?_, ?_, ?_, ?_, ?_, ?_, ?_, ?_, ?_, by simp⟩
  all_goals exact fun _ => rfl

/-- A word that is the key of no row is not looked up. -/
theorem ne_of_lookup_none {rows : List (Word × Instr)} {w : Word} (h : rows.lookup w = none) : ∀ r ∈ rows, w ≠ r.1 := by
  simpa using List.lookup_eq_none_iff.1 h

/-- `FOURCC_MAP` has no codec for a word without a row. -/
theorem fourccCodec_of_unlisted {w : Word} (h : ∀ r ∈ fourccRows, w ≠ r.1) : fourccCodec w = none := by
  simp only [fourccRows, List.forall_mem_cons] at h
  simp only [fourccCodec, h, or_self, if_false]

/-- `XFMT_MAP` has no codec for an enumerant without a row. -/
theorem xfmtCodec_of_unlisted {w : Word} (h : ∀ r ∈ xfmtRows, w ≠ r.1) : xfmtCodec w = none := by
  simp only [xfmtRows, List.cons_append, List.nil_append, List.forall_mem_cons, BitVec.toNat_ne_iff_ne.symm,
    BitVec.reduceToNat] at h
  cases hcodec : xfmtCodec w with
  | none => rfl
  | some f =>
    simp only [xfmtCodec] at hcodec
    split_ifs at hcodec <;> omega

/-- A FourCC word other than the sentinel runs as `FOURCC_MAP` says (`46_resolver.md` R245). -/
theorem execInner_decodeFourcc {w : Word} (hw : w ≠ 0x30315844) (s : State) :
    execInner (decodeFourcc w) s = dispatched (fourccCodec w) 128 w s := by
  unfold decodeFourcc
  cases h : fourccRows.lookup w with
  | some i => exact fourccRows_dispatched _ (mem_of_lookup h) hw s
  | none => rw [fourccCodec_of_unlisted (ne_of_lookup_none h)]; rfl

/-- An enumerant runs as `XFMT_MAP` says (`46_resolver.md` R246). -/
theorem execInner_decodeXfmt (w : Word) (s : State) :
    execInner (decodeXfmt w) s = dispatched (xfmtCodec w) 148 w s := by
  unfold decodeXfmt
  cases h : xfmtRows.lookup w with
  | some i => exact xfmtRows_dispatched _ (mem_of_lookup h) s
  | none => rw [xfmtCodec_of_unlisted (ne_of_lookup_none h)]; rfl

/-! ### RESOLVE -/

/-- Outside the two dispatches there is nothing to dispatch. -/
theorem codeStep_of_waiting {s : State} (h : s.phase = .waiting) : codeStep s = .next s := by simp [codeStep, h]

/-- A code ends RESOLVE: no dispatch follows it (`46_resolver.md` R245, R246). -/
theorem andThen_dispatched (codec : Option Fmt) (payload : Nat) (w : Word) (s : State) :
    andThen (dispatched codec payload w s) codeStep = dispatched codec payload w s := by
  cases codec with
  | none => exact codeStep_of_waiting (s := faulted .unsupportedFormat w s) rfl
  | some f => exact codeStep_of_waiting (s := resolved f payload s) rfl

/-- The end of RESOLVE writes the phase. -/
theorem dispatched_phase (codec : Option Fmt) (payload : Nat) (w : Word) (s : State) (p : Phase) :
    dispatched codec payload w { s with phase := p } = dispatched codec payload w s := by
  cases codec <;> rfl

/-- RESOLVE whose header part ends in a fault: neither dispatch is reached. -/
theorem execCmdResolve_of_fault {s u : State} {f : FaultClass} {info : Word}
    (h : resolveHeader s = .next (raise f info u)) : execCmdResolve s = .next (faulted f info u) := by
  rw [execCmdResolve, h, andThen_next, codeStep_of_waiting rfl, andThen_next, codeStep_of_waiting rfl]
  rfl

/-- The checks of a header with CHECK_SIZES on, its default (`00_scope.md` R6, `46_resolver.md` R240-R244). -/
theorem headerFault_eq (h : Header) : headerFault h =
    if h.magic ≠ 0x20534444 then some (.malformedContainer, 2)
    else if h.size ≠ 124 ∨ h.pfSize ≠ 32 then some (.malformedContainer, 3)
    else if h.width = 0 ∨ h.height = 0 then some (.malformedContainer, 4)
    else if h.pfFlags.getLsbD 2 = false then some (.unsupportedFormat, h.pfFlags)
    else none := by
  simp only [headerFault, config, true_and]

/-- Less than a header in SRC (`46_resolver.md` R238). -/
theorem resolveHeader_of_short {s : State} (h : s.srcLen < 128) :
    resolveHeader s = .next (raise .malformedContainer 1 (clearForResolve s)) := if_pos h

/-- The cleared registers with the header loaded (`46_resolver.md` R239). -/
def withHeader (s : State) : State := { clearForResolve s with hdr := headerIn s }

/-- A header that fails a check (`46_resolver.md` R240-R244). -/
theorem resolveHeader_of_fault {s : State} (hlen : ¬s.srcLen < 128) {f : FaultClass} {info : Word}
    (h : headerFault (headerIn s) = some (f, info)) : resolveHeader s = .next (raise f info (withHeader s)) := by
  have hload : loadHeader (clearForResolve s) = some (headerIn s) := loadHeader_eq (Nat.le_of_not_lt hlen)
  simp only [resolveHeader, clearForResolve_srcLen, if_neg hlen, hload, h, withHeader]

/-- A header that passes them goes to the FourCC dispatch (`46_resolver.md` R237). -/
theorem resolveHeader_of_pass {s : State} (hlen : ¬s.srcLen < 128) (h : headerFault (headerIn s) = none) :
    resolveHeader s = .next { withHeader s with phase := .fourcc } := by
  have hload : loadHeader (clearForResolve s) = some (headerIn s) := loadHeader_eq (Nat.le_of_not_lt hlen)
  simp only [resolveHeader, clearForResolve_srcLen, if_neg hlen, hload, h, withHeader]

/-- RESOLVE with a codec's FourCC, or an unknown one (`46_resolver.md` R245, R247). -/
theorem execCmdResolve_of_fourcc {s : State} (h : resolveHeader s = .next { withHeader s with phase := .fourcc })
    (hw : (headerIn s).pfFourcc ≠ 0x30315844) :
    execCmdResolve s = dispatched (fourccCodec (headerIn s).pfFourcc) 128 (headerIn s).pfFourcc (withHeader s) := by
  have hcode : codeStep { withHeader s with phase := .fourcc } = _ := execInner_decodeFourcc hw _
  rw [execCmdResolve, h, andThen_next, hcode, andThen_dispatched, dispatched_phase]

/-- RESOLVE with the sentinel and no extended header after it (`46_resolver.md` R243). -/
theorem execCmdResolve_of_short_ext {s : State} (h : resolveHeader s = .next { withHeader s with phase := .fourcc })
    (hw : (headerIn s).pfFourcc = 0x30315844) (hlen : s.srcLen < 148) :
    execCmdResolve s = .next (faulted .malformedContainer 5 (withHeader s)) := by
  have hcode : codeStep { withHeader s with phase := .fourcc } = .next (faulted .malformedContainer 5 (withHeader s)) := by
    change execInner (decodeFourcc (headerIn s).pfFourcc) _ = _
    rw [hw]
    exact parseExtHeader_of_short hlen
  rw [execCmdResolve, h, andThen_next, hcode, andThen_next, codeStep_of_waiting rfl]

/-- RESOLVE with the sentinel and the enumerant of the extended header (`46_resolver.md` R243, R246, R247). -/
theorem execCmdResolve_of_xfmt {s : State} (h : resolveHeader s = .next { withHeader s with phase := .fourcc })
    (hw : (headerIn s).pfFourcc = 0x30315844) (hlen : 148 ≤ s.srcLen) :
    execCmdResolve s = dispatched (xfmtCodec (extHeaderIn s).format) 148 (extHeaderIn s).format
      { withHeader s with ext := some (extHeaderIn s) } := by
  have hcode : codeStep { withHeader s with phase := .fourcc } =
      .next { withHeader s with ext := some (extHeaderIn s), phase := .xfmt } := by
    change execInner (decodeFourcc (headerIn s).pfFourcc) _ = _
    rw [hw]
    exact parseExtHeader_of_fits hlen
  have hxfmt : codeStep { withHeader s with ext := some (extHeaderIn s), phase := .xfmt } = _ :=
    execInner_decodeXfmt (extHeaderIn s).format _
  rw [execCmdResolve, h, andThen_next, hcode, andThen_next, hxfmt]
  exact dispatched_phase _ _ _ { withHeader s with ext := some (extHeaderIn s) } _

/-- Settles O37: the length, the checks in their order, then the FourCC, then the enumerant. -/
theorem resolveComputesItsPseudocode : Obligations.ResolveComputesItsPseudocode := by
  intro s
  change execCmdResolve s = _
  unfold resolveSpec
  dsimp only
  by_cases hlen : s.srcLen < 128
  · rw [if_pos hlen]
    exact execCmdResolve_of_fault (resolveHeader_of_short hlen)
  have hfault {f : FaultClass} {info : Word} (h : headerFault (headerIn s) = some (f, info)) :=
    execCmdResolve_of_fault (resolveHeader_of_fault hlen h)
  rw [if_neg hlen]
  by_cases hmagic : (headerIn s).magic ≠ 0x20534444
  · rw [if_pos hmagic]
    exact hfault (by rw [headerFault_eq, if_pos hmagic])
  rw [if_neg hmagic]
  by_cases hsize : (headerIn s).size ≠ 124 ∨ (headerIn s).pfSize ≠ 32
  · rw [if_pos hsize]
    exact hfault (by rw [headerFault_eq, if_neg hmagic, if_pos hsize])
  rw [if_neg hsize]
  by_cases hdim : (headerIn s).width = 0 ∨ (headerIn s).height = 0
  · rw [if_pos hdim]
    exact hfault (by rw [headerFault_eq, if_neg hmagic, if_neg hsize, if_pos hdim])
  rw [if_neg hdim]
  by_cases hflag : (headerIn s).pfFlags.getLsbD 2 = false
  · rw [if_pos hflag]
    exact hfault (by rw [headerFault_eq, if_neg hmagic, if_neg hsize, if_neg hdim, if_pos hflag])
  rw [if_neg hflag]
  have hpass := resolveHeader_of_pass hlen
    (by rw [headerFault_eq, if_neg hmagic, if_neg hsize, if_neg hdim, if_neg hflag])
  by_cases hfourcc : (headerIn s).pfFourcc = 0x30315844
  · rw [if_pos hfourcc]
    by_cases hext : s.srcLen < 148
    · rw [if_pos hext]
      exact execCmdResolve_of_short_ext hpass hfourcc hext
    · rw [if_neg hext, execCmdResolve_of_xfmt hpass hfourcc (Nat.le_of_not_lt hext)]
      cases xfmtCodec (extHeaderIn s).format <;> rfl
  · rw [if_neg hfourcc, execCmdResolve_of_fourcc hpass hfourcc]
    cases fourccCodec (headerIn s).pfFourcc <;> rfl

end Sys2Proof.Proofs
end

section
/-! ## Who writes the header

Blocks, levels and chains leave the header, the extended header and FMT alone; a dispatch code writes FMT, and the sentinel the
extended header. -/

namespace Sys2Proof.Proofs

open Sys2Proof.Machine Sys2Proof.Claims

/-- The header, the extended header and FMT unchanged. -/
structure HeaderKept (s t : State) : Prop where
  hdr : t.hdr = s.hdr
  ext : t.ext = s.ext
  fmt : t.fmt = s.fmt

theorem HeaderKept.refl (s : State) : HeaderKept s s := ⟨rfl, rfl, rfl⟩

theorem HeaderKept.trans {s t u : State} (h : HeaderKept s t) (k : HeaderKept t u) : HeaderKept s u :=
  ⟨k.hdr.trans h.hdr, k.ext.trans h.ext, k.fmt.trans h.fmt⟩

/-! ### Blocks, levels and chains -/

theorem execInner_block_headerKept {i : Instr} {f : Fmt} {s t : State} (hi : i.stream = .block f)
    (h : execInner i s = .next t) : HeaderKept s t := by
  obtain ⟨_, _, _, _, -, -, -, rfl⟩ := execInner_block_cases hi h
  exact ⟨rfl, rfl, rfl⟩

theorem runBlocks_headerKept {n : Nat} {s t : State} (h : runBlocks n s = .next t) : HeaderKept s t := by
  obtain ⟨_, _, _, _, rfl⟩ := runBlocks_frame h
  exact ⟨rfl, rfl, rfl⟩

theorem levelStart_headerKept {p : Phase} {s t : State} (h : levelStart p s = .next t) : HeaderKept s t := by
  obtain ⟨-, ⟨-, rfl⟩ | ⟨-, rfl⟩⟩ := levelStart_cases h
  · exact ⟨rfl, rfl, rfl⟩
  · exact ⟨rfl, rfl, rfl⟩

theorem levelFinish_headerKept {s t : State} (h : levelFinish s = .next t) : HeaderKept s t := by
  obtain ⟨_, -, -, rfl⟩ := levelFinish_cases h
  exact ⟨rfl, rfl, rfl⟩

theorem levelBody_headerKept {p : Phase} {s t : State} (h : levelBody p s = .next t) : HeaderKept s t := by
  obtain ⟨u, hu, ⟨-, rfl⟩ | ⟨-, v, hv, ht⟩⟩ := levelBody_cases h
  · exact levelStart_headerKept hu
  · exact ((levelStart_headerKept hu).trans (runBlocks_headerKept hv)).trans (levelFinish_headerKept ht)

theorem chainLoop_headerKept {n k : Nat} {s t : State} (h : chainLoop n k s = .next t) : HeaderKept s t := by
  induction n generalizing k s with
  | zero =>
    obtain rfl : s = t := by simpa [chainLoop] using h
    exact .refl s
  | succ n ih =>
    obtain ⟨u, hu, hrest⟩ := chainLoop_succ_cases h
    have hlevel : HeaderKept s u := .trans (t := setLevel k s) ⟨rfl, rfl, rfl⟩ (levelBody_headerKept hu)
    obtain ⟨-, rfl⟩ | ⟨-, ht⟩ := hrest
    · exact hlevel
    · exact hlevel.trans (ih ht)

/-! ### Codes and commands -/

/-- No dispatch code writes the header (`10_state.md` R28). -/
theorem RunsAsCode.hdr_eq {w : Word} {m : State → Result} (hm : RunsAsCode w m) {s t : State} (h : m s = .next t) :
    t.hdr = s.hdr := by
  obtain ⟨_, _, -, rfl⟩ | rfl | rfl | ⟨_, rfl⟩ := hm.cases h
  · rfl
  · rfl
  · rfl
  · rfl

/-- Only the sentinel writes the extended header (`10_state.md` R29). -/
theorem execInner_code_ext {i : Instr} {s t : State} (hi : i.stream = .fourcc ∨ i.stream = .xfmt) (hx : i ≠ .fourccDx10)
    (h : execInner i s = .next t) : t.ext = s.ext := by
  cases i <;> simp only [Instr.stream, reduceCtorEq, or_self] at hi
  case fourccDx10 => exact absurd rfl hx
  all_goals
    obtain rfl := Host.Outcome.next.inj h
    rfl

/-- No command but RESOLVE and RESET writes any of the three (`46_resolver.md` R249, R250, R254). -/
theorem exec_cmd_headerKept {i : Instr} {s t : State} (hi : i.stream = .cmd) (hres : i ≠ .cmdResolve) (hreset : i ≠ .cmdReset)
    (h : exec i s = .next t) : HeaderKept s t := by
  cases i <;> simp only [Instr.stream, reduceCtorEq] at hi
  case cmdResolve => exact absurd rfl hres
  case cmdReset => exact absurd rfl hreset
  case cmdLevel =>
    simp only [exec, execCmdLevel] at h
    split at h
    · obtain rfl : s = t := by simpa using h
      exact .refl s
    · exact levelBody_headerKept h
  case cmdChain =>
    simp only [exec, execCmdChain] at h
    split at h
    · obtain rfl : s = t := by simpa using h
      exact .refl s
    · exact chainLoop_headerKept h
  all_goals
    obtain rfl : s = t := Host.Outcome.next.inj h
    exact .refl s

/-- Settles O54: by the stream of the instruction. -/
theorem onlyTheResolverWritesTheHeader : Obligations.OnlyTheResolverWritesTheHeader := by
  intro i s t h hres hreset
  have kept (hk : HeaderKept s t) : t.hdr = s.hdr ∧ (i ≠ .fourccDx10 → t.ext = s.ext) ∧
      (i.stream ≠ .fourcc → i.stream ≠ .xfmt → t.fmt = s.fmt) := ⟨hk.hdr, fun _ => hk.ext, fun _ _ => hk.fmt⟩
  cases hst : i.stream with
  | cmd => exact hst ▸ kept (exec_cmd_headerKept hst hres hreset h)
  | block f =>
    rw [exec_eq_execInner (by simp [hst])] at h
    exact hst ▸ kept (execInner_block_headerKept hst h)
  | fourcc =>
    rw [exec_eq_execInner (by simp [hst])] at h
    exact ⟨(execInner_fourcc hst).hdr_eq h, fun hx => execInner_code_ext (.inl hst) hx h, fun hne => absurd rfl hne⟩
  | xfmt =>
    rw [exec_eq_execInner (by simp [hst])] at h
    exact ⟨(execInner_xfmt hst).hdr_eq h, fun hx => execInner_code_ext (.inr hst) hx h, fun _ hne => absurd rfl hne⟩

end Sys2Proof.Proofs
end

section
/-! ## Host writes, ignored commands and RESET

Between commands a step takes the oldest write of the host: bytes of SRC, or a register the host may write now. -/

namespace Sys2Proof.Proofs

open Sys2Proof.Machine

/-! ### Host writes -/

/-- Bytes placed from an address read back there, every other byte as before (`20_memory.md` R61). -/
theorem read_writeBytes (bs : List Byte) {m : List Host.Cell} (hm : Memory.wf m) (a x : Nat) :
    Memory.read (Memory.writeBytes m a bs) x =
      if a ≤ x ∧ x < a + bs.length then bs.getD (x - a) 0 else Memory.read m x := by
  induction bs generalizing m a with
  | nil => rw [if_neg (by simp)]; rfl
  | cons b bs ih =>
    rw [Memory.writeBytes, ih (Memory.wf_write hm a b), Memory.read_write hm, List.length_cons]
    obtain hlt | rfl | hgt := Nat.lt_trichotomy x a
    · rw [if_neg (by omega), if_neg (by omega), if_neg (by omega)]
    · rw [if_neg (by omega), if_pos rfl, if_pos (by omega), Nat.sub_self, List.getD_cons_zero]
    · rw [if_neg (show ¬x = a by omega), show x - a = x - (a + 1) + 1 by omega, List.getD_cons_succ]
      exact if_congr (by omega) rfl rfl

/-- Between commands a step takes the oldest host write that starts no command (`46_resolver.md` R255). -/
theorem step_of_hostAction {s : State} {a : HostAction} {rest : List HostAction} (hp : s.phase = .waiting)
    (hh : s.host = a :: rest) (ha : fetchAction a { s with host := rest } = .action a { s with host := rest }) :
    step s = hostAct a { s with host := rest } := by
  have hf : fetch s = .ok (.action a { s with host := rest }) := by rw [← ha]; simp only [fetch, hp, hh]
  rw [step, hf]

/-- Settles O58: SRC_CAP is unbounded, so the bytes are placed (`93_implementation_defined.md` U11). -/
theorem hostPlacesBytesInSrc : Obligations.HostPlacesBytesInSrc := by
  intro s a bs rest hm hp hh
  exact ⟨_, step_of_hostAction hp hh rfl, Memory.wf_writeBytes bs hm a, read_writeBytes bs hm a, rfl⟩

/-- Settles O57: by the register and STATE. -/
theorem hostWritesOnlyWhatItMay : Obligations.HostWritesOnlyWhatItMay := by
  intro s no v rest hp hh hno u
  have hstep : step s = hostWriteReg no v u := step_of_hostAction hp hh (if_neg hno)
  have hready (hr : s.unit = .ready) : ¬u.unit ≠ .ready := not_not.2 hr
  rw [hstep, hostWriteReg]
  refine ⟨fun h => ?_, fun hr h => ?_, fun hr h _ => ?_, fun hr h _ => ?_, fun hr h _ => ?_, fun h₅ h => ?_⟩
  · rw [if_pos h]; rfl
  · subst h; rw [if_neg (by decide), if_neg (hready hr)]; rfl
  · subst h; rw [if_neg (by decide), if_neg (hready hr)]; rfl
  · subst h; rw [if_neg (by decide), if_neg (hready hr)]; rfl
  · subst h; rw [if_neg (by decide), if_neg (hready hr)]; rfl
  · rw [if_neg h₅]
    by_cases hr : u.unit ≠ .ready
    · rw [if_pos hr]
    · have hout : no < 5 ∨ 9 < no := h.resolve_left hr
      rw [if_neg hr, if_neg (by omega), if_neg (by omega), if_neg (by omega), if_neg (by omega)]

/-! ### Commands -/

/-- Settles O39: code 0 is NOP, and NOP answers the state. -/
theorem nopDoesNothing : Obligations.NopDoesNothing := ⟨rfl, fun _ => rfl⟩

/-- Settles O40: the guards of LEVEL and CHAIN, and the reserved codes. -/
theorem ignoredCommandsDoNothing : Obligations.IgnoredCommandsDoNothing :=
  ⟨fun _ hu => ⟨if_pos (.inl hu), if_pos hu⟩, fun _ hz => if_pos (.inr hz), fun _ => ⟨rfl, rfl, rfl⟩⟩

/-- Settles O41: the state after reset but for what `resetUnit` keeps. -/
theorem resetKeepsOnlyTheSource : Obligations.ResetKeepsOnlyTheSource := fun s =>
  ⟨resetUnit s, rfl, rfl, rfl, rfl⟩

end Sys2Proof.Proofs
end

section
/-! ## Where a block stops, and what it leaves

A block ends in one store of a full tile, so all that can stop it is that store; what it leaves is what the store leaves. -/

namespace Sys2Proof.Proofs

open Sys2Proof.Machine Sys2Proof.Claims

/-- A store answers or is the model fault (`60_exceptions.md` R275). -/
theorem finishBlock_next_or_fault (f : Fmt) (u : Tile) (s : State) :
    (∃ t, finishBlock f u s = .next t) ∨ finishBlock f u s = .fault .padOutOfRange := by
  cases h : finishBlock f u s with
  | next t => exact .inl ⟨t, rfl⟩
  | fault r => rw [finishBlock_fault h]; exact .inr rfl
  | refused r => exact absurd h (finishBlock_ne_refused f u s r)

/-- Every codec has a channel. -/
theorem outBytes_pos {f : Fmt} (hf : f ≠ .none) : 0 < outBytes f := by
  cases f with
  | none => exact absurd rfl hf
  | bc1 | bc2 | bc3 | bc4 | bc4s | bc5 | bc5s | bc6h | bc7 => simp [outBytes]

/-- A store answers exactly when PAD reaches the last byte of the tile, that of pixel 15's last channel
(`41_block_iteration.md` R116). -/
theorem finishBlock_next_iff {f : Fmt} (hf : f ≠ .none) (u : Tile) (s : State) :
    (∃ t, finishBlock f u s = .next t) ↔
      ∃ p, s.pad = some p ∧ s.seq.outOff + (3 * s.seq.stride + 4) * outBytes f ≤ p.length := by
  constructor
  · rintro ⟨t, h⟩
    obtain ⟨p, q, hp, hq, -⟩ := finishBlock_cases h
    have hpos := outBytes_pos hf
    have hlast : pixelAddr s.seq.outOff s.seq.stride (outBytes f) 15 (outBytes f - 1) < p.length :=
      (padWrites_isSome _ p).1 (by rw [hq]; rfl) _ (mem_tileWrites.2 ⟨15, by decide, _, Nat.sub_lt hpos Nat.one_pos, rfl⟩)
    have hroom : (3 * s.seq.stride + 4) * outBytes f = (3 * s.seq.stride + 3) * outBytes f + outBytes f := Nat.succ_mul _ _
    simp only [pixelAddr, Nat.reduceDiv, Nat.reduceMod] at hlast
    exact ⟨p, hp, by omega⟩
  · rintro ⟨p, hp, hroom⟩
    obtain ⟨q, -, h⟩ := finishBlock_next (u := u) hp fun i hi c hc => pixelAddr_lt hroom hi hc
    exact ⟨_, h⟩

/-- Settles O32: the block is its store, which answers or is that fault. -/
theorem blocksStopOnlyOutsidePad : Obligations.BlocksStopOnlyOutsidePad := by
  intro i f s hi
  have hf : f ≠ .none := fun hf => i.stream_ne_none (hf ▸ hi)
  obtain ⟨u, -, hm⟩ := execInner_storesTile hi
  obtain ⟨x, hx⟩ := hm s
  have hnext := finishBlock_next_iff hf u { s with scratch := x }
  rw [exec_eq_execInner (by simp [hi]), hx]
  obtain ⟨t, h⟩ | h := finishBlock_next_or_fault f u { s with scratch := x }
  · obtain ⟨p, hp, hroom⟩ := hnext.1 ⟨t, h⟩
    exact ⟨iff_of_false (by simp [h]) fun hno => Nat.not_lt.2 hroom (hno p hp), fun _ => ⟨t, h⟩⟩
  · refine ⟨iff_of_true h fun p hp => Nat.not_le.1 fun hroom => ?_, fun hne => absurd h hne⟩
    obtain ⟨t, ht⟩ := hnext.2 ⟨p, hp, hroom⟩
    rw [h] at ht
    cases ht

/-- Settles O33: the store makes BLKERR sticky with the tile's block error, which is that of a reserved block. -/
theorem onlyReservedBlocksSetBlkErr : Obligations.OnlyReservedBlocksSetBlkErr := by
  intro i f s t hi h
  obtain ⟨u, hu, hm⟩ := execInner_storesTile hi
  obtain ⟨x, hx⟩ := hm s
  rw [exec_eq_execInner (by simp [hi]), hx] at h
  obtain ⟨_, _, -, -, rfl⟩ := finishBlock_cases h
  exact ⟨by rw [hu.err], rfl, rfl, rfl, rfl, rfl⟩

end Sys2Proof.Proofs
end

section
/-! ## Progress

What could stop a step is excluded where the step stands: a level runs with a codec, and the walk keeps its block inside SRC and
the block's tile inside PAD. -/

namespace Sys2Proof.Proofs

open Sys2Proof.Machine Sys2Proof.Safety Sys2Proof.Claims

/-- A sequence answers when both its operations do. -/
theorem andThen_answers {o : Result} {f : State → Result} (ho : ∃ s, o = .next s)
    (hf : ∀ s, o = .next s → ∃ t, f s = .next t) : ∃ t, andThen o f = .next t := by
  obtain ⟨s, rfl⟩ := ho
  exact hf s rfl

/-! ### Levels and chains -/

/-- A level with a codec starts or raises its fault (`41_block_iteration.md` R112). -/
theorem levelStart_answers (p : Phase) {s : State} (hf : s.fmt ≠ .none) : ∃ t, levelStart p s = .next t := by
  obtain h | h := Nat.lt_or_ge s.srcLen (s.srcOff + levelSize (setGrid s))
  · exact ⟨_, levelStart_of_short hf h⟩
  · exact ⟨_, levelStart_of_fits hf h⟩

/-- A level with a codec is appended or raises its fault, whatever SRC holds. -/
theorem levelBody_answers {p : Phase} (hp : p ≠ .waiting) {s : State} (hf : s.fmt ≠ .none) :
    ∃ t, levelBody p s = .next t := by
  obtain h | h := Nat.lt_or_ge s.srcLen (s.srcOff + levelSize (setGrid s))
  · exact ⟨_, levelBody_of_short hf h⟩
  · obtain ⟨q, x, hbody⟩ := levelBody_appends hp hf h
    exact ⟨_, hbody⟩

/-- So are the levels of a chain: no level changes FMT (`46_resolver.md` R250). -/
theorem chainLoop_answers (n k : Nat) {s : State} (hf : s.fmt ≠ .none) : ∃ t, chainLoop n k s = .next t := by
  induction n generalizing k s with
  | zero => exact ⟨s, rfl⟩
  | succ n ih =>
    refine andThen_answers (levelBody_answers (by decide) hf) fun t ht => ?_
    split
    · exact ⟨t, rfl⟩
    · exact ih (k + 1) ((levelBody_headerKept ht).fmt ▸ hf)

/-! ### Commands, codes and host writes -/

/-- A command answers when READY has a codec (`10_state.md` R30). -/
theorem exec_cmd_answers {i : Instr} {s : State} (hi : i.stream = .cmd) (hr : s.unit = .ready → s.fmt ≠ .none) :
    ∃ t, exec i s = .next t := by
  cases i <;> simp only [Instr.stream, reduceCtorEq] at hi
  case cmdResolve => exact ⟨_, resolveComputesItsPseudocode s⟩
  case cmdLevel =>
    simp only [exec, execCmdLevel]
    split
    · exact ⟨s, rfl⟩
    · rename_i hgo
      exact levelBody_answers (by decide) (hr (not_not.1 (not_or.1 hgo).1))
  case cmdChain =>
    simp only [exec, execCmdChain]
    split
    · exact ⟨s, rfl⟩
    · rename_i hgo
      exact chainLoop_answers _ 0 (hr (not_not.1 hgo))
  all_goals exact ⟨_, rfl⟩

/-- A dispatch code answers from every state (`46_resolver.md` R243, R247). -/
theorem RunsAsCode.answers {w : Word} {m : State → Result} (hm : RunsAsCode w m) (s : State) : ∃ t, m s = .next t := by
  cases hm with
  | select f payload _ h => exact ⟨_, h s⟩
  | unsupported h => exact ⟨_, h s⟩
  | extended h =>
    rw [h]
    obtain hlen | hlen := Nat.lt_or_ge s.srcLen 148
    · exact ⟨_, parseExtHeader_of_short hlen⟩
    · exact ⟨_, parseExtHeader_of_fits hlen⟩

theorem exec_code_answers {i : Instr} (hi : i.stream = .fourcc ∨ i.stream = .xfmt) (s : State) : ∃ t, exec i s = .next t := by
  obtain hi | hi := hi
  · rw [exec_eq_execInner (by simp [hi])]
    exact (execInner_fourcc hi).answers s
  · rw [exec_eq_execInner (by simp [hi])]
    exact (execInner_xfmt hi).answers s

/-- A host write answers: SRC_CAP is unbounded (`93_implementation_defined.md` U11). -/
theorem hostAct_answers (a : HostAction) (s : State) : ∃ t, hostAct a s = .next t := by
  cases a with
  | writeSrc addr bs => exact ⟨_, rfl⟩
  | writeReg no v =>
    simp only [hostAct, hostWriteReg, hostWriteSrcLen, config]
    repeat' split
    all_goals exact ⟨_, rfl⟩

/-! ### The walk -/

/-- The block the walk stands at lies inside SRC (`41_block_iteration.md` R112). -/
theorem block_inside_of_walk {s : State} (h : WalkOk s) : s.srcOff + blockBytes s.fmt ≤ s.srcLen := by
  obtain ⟨hx, hy⟩ := h.inside
  have hsrc := h.src
  rw [blocksLeft_advanceBlock hx hy, Nat.succ_mul] at hsrc
  omega

/-- PAD has room for its tile (`60_exceptions.md` R275). -/
theorem tileFits_of_walk {s : State} (h : WalkOk s) : TileFits s.fmt s := by
  obtain ⟨-, ⟨-, -, hstride⟩, ⟨hx, hy⟩, -, hoff, ⟨p, hp, hlen⟩, -⟩ := h
  have hn : s.seq.bx + s.seq.bwide * s.seq.by_ < s.seq.bwide * s.seq.bhigh := by
    have hrow : s.seq.bwide * (s.seq.by_ + 1) ≤ s.seq.bwide * s.seq.bhigh := Nat.mul_le_mul_left _ hy
    rw [Nat.mul_succ] at hrow
    omega
  obtain ⟨hdiv, hmod⟩ := (Nat.div_mod_unique (Nat.zero_lt_of_lt hx)).2 ⟨rfl, hx⟩
  have hroom := tile_room hn
  rw [hdiv, hmod] at hroom
  refine ⟨by omega, p, hp, ?_⟩
  rw [hoff, hlen, padSize, hstride, ← Nat.add_mul]
  exact Nat.mul_le_mul_right _ hroom

/-- The rows of the level lie in PAD: what the end of a level needs (`41_block_iteration.md` R118). -/
def RowsInPad (s : State) : Prop :=
  s.lw.toNat ≤ s.seq.stride ∧ ∃ p, s.pad = some p ∧ s.lh.toNat * s.seq.stride * outBytes s.fmt ≤ p.length

/-- The walk stands in a level whose rows lie in PAD (`41_block_iteration.md` R111, R113). -/
theorem rowsInPad_of_walk {s : State} (h : WalkOk s) : RowsInPad s := by
  obtain ⟨-, ⟨hwide, hhigh, hstride⟩, -, -, -, ⟨p, hp, hlen⟩, -⟩ := h
  have hrows : s.lh.toNat ≤ s.seq.bhigh * 4 := by rw [hhigh, blocksAcross]; omega
  refine ⟨by rw [hstride, hwide, blocksAcross]; omega, p, hp, ?_⟩
  rw [hlen, padSize, hstride]
  exact Nat.mul_le_mul_right _ (Nat.mul_le_mul_right _ hrows)

/-- A block and the walk after it leave the rows in PAD. -/
theorem RowsInPad.blockStep {s t : State} (h : RowsInPad s) (hs : blockStep s = .next t) : RowsInPad t := by
  obtain ⟨hcols, p, hp, hrows⟩ := h
  obtain ⟨i, u, v, hfetch, hrun, rfl⟩ := blockStep_cases hs
  obtain ⟨p', q, e, x, hp', hlen, -, rfl⟩ := fetched_block_frame hfetch hrun
  obtain rfl := Option.some.inj (hp'.symm.trans hp)
  have hstride (w : State) : (advanceBlock w).seq.stride = w.seq.stride := by rw [advanceBlock_seq]; split <;> rfl
  refine ⟨?_, q, by simp, ?_⟩
  · rw [hstride]
    simpa using hcols
  · rw [hstride, hlen]
    simpa using hrows

/-- The end of a level whose rows lie in PAD answers, and so does the start of the next one (`46_resolver.md` R250). -/
theorem endLevel_answers (p : Phase) {s : State} (hrows : RowsInPad s) (hf : s.fmt ≠ .none) :
    ∃ t, endLevel p s = .next t := by
  obtain ⟨hcols, pad, hpad, hlen⟩ := hrows
  refine andThen_answers ⟨_, levelFinish_of_pad hpad hcols hlen⟩ fun t ht => ?_
  split
  · exact levelStart_answers .chain (s := setLevel _ t) ((levelFinish_headerKept ht).fmt ▸ hf)
  · exact ⟨t, rfl⟩

/-! ### A step -/

/-- Inside a level or a chain a step answers: its block, and the end of the level after its last. -/
theorem step_answers_in_level {s : State} (hi : Inv s) (hp : s.phase = .level ∨ s.phase = .chain) :
    ∃ t, step s = .next t := by
  obtain ⟨hwalk, -⟩ := walk_of_inv hi hp
  have hf := hi.ready hwalk.ready
  obtain ⟨u, hblock, -⟩ := blockStep_of_fits hf (block_inside_of_walk hwalk) (tileFits_of_walk hwalk)
  rw [step_eq_blockStep hp]
  refine andThen_answers ⟨_, hblock⟩ fun t ht => ?_
  obtain ⟨_, _, _, hframe⟩ := blockStep_frame ht
  split
  · exact ⟨t, rfl⟩
  · exact endLevel_answers s.phase ((rowsInPad_of_walk hwalk).blockStep ht) (by rw [hframe]; exact hf)

/-- Outside a level nothing is fetched from SRC. -/
theorem fetch_ok_outside_level {s : State} (hl : s.phase ≠ .level) (hc : s.phase ≠ .chain) : ∃ r, fetch s = .ok r := by
  unfold fetch
  split
  · split
    · exact ⟨_, rfl⟩
    · exact ⟨_, rfl⟩
  · exact ⟨_, rfl⟩
  · exact ⟨_, rfl⟩
  · contradiction
  · contradiction

/-- Outside a level a step answers: a host write, a command, or a dispatch code. -/
theorem step_answers_outside_level {s : State} (hi : Inv s) (hl : s.phase ≠ .level) (hc : s.phase ≠ .chain) :
    ∃ t, step s = .next t := by
  obtain ⟨r, hr⟩ := fetch_ok_outside_level hl hc
  cases r with
  | nothing => exact ⟨s, by rw [step, hr]⟩
  | action a u =>
    rw [step, hr]
    exact hostAct_answers a u
  | instr i u =>
    rw [step_of_fetch_outside_level hr hl hc]
    refine andThen_answers ?_ fun t _ => ⟨t, rfl⟩
    obtain ⟨-, hcmd, rest, c, rfl⟩ | ⟨-, rfl, rfl⟩ | ⟨-, rfl, rfl⟩ | ⟨hp, -⟩ := fetch_instr hr
    · exact exec_cmd_answers hcmd hi.ready
    · exact exec_code_answers (.inl (decodeFourcc_word _).1) u
    · exact exec_code_answers (.inr (decodeXfmt_word _).1) u
    · exact absurd hp (not_or.2 ⟨hl, hc⟩)

/-- Settles O51: at a block the walk keeps the accesses inside SRC and PAD, elsewhere there is none to exclude. -/
theorem stepNeverStops : Obligations.StepNeverStops := by
  intro s hi
  by_cases hp : s.phase = .level ∨ s.phase = .chain
  · exact step_answers_in_level hi hp
  · obtain ⟨hl, hc⟩ := not_or.1 hp
    exact step_answers_outside_level hi hl hc

end Sys2Proof.Proofs
end

section
/-! ## The ways out of FAULTED

A faulted unit waits for the host. What the host may then write changes no register of the fault, and a command other than
RESOLVE and RESET is ignored. -/

namespace Sys2Proof.Proofs

open Sys2Proof.Machine Sys2Proof.Safety

/-- A fault ends the command it stops (`60_exceptions.md` R270). -/
theorem waiting_of_faulted {s : State} (hi : Inv s) (hu : s.unit = .faulted) : s.phase = .waiting := by
  cases hp : s.phase with
  | waiting => rfl
  | fourcc =>
    obtain ⟨⟨-, hidle, -⟩, -⟩ := resolving_at_code hi (.inl ⟨hp, rfl⟩)
    exact absurd hidle (by simp [hu])
  | xfmt =>
    obtain ⟨⟨-, hidle, -⟩, -⟩ := resolving_at_code hi (.inr ⟨hp, rfl⟩)
    exact absurd hidle (by simp [hu])
  | level => exact absurd (walk_of_inv hi (.inl hp)).1.ready (by simp [hu])
  | chain => exact absurd (walk_of_inv hi (.inr hp)).1.ready (by simp [hu])

/-- Between commands an instruction fetched is the command the host wrote to CMD (`46_resolver.md` R235). -/
theorem fetch_command {s u : State} {i : Instr} (hp : s.phase = .waiting) (h : fetch s = .ok (.instr i u)) :
    ∃ v rest, s.host = .writeReg 0 v :: rest ∧ i = decodeCmd (BitVec.ofNat 3 v) ∧
      u = { s with host := rest, cmd := BitVec.ofNat 3 v } := by
  simp only [fetch, hp] at h
  split at h
  · cases h
  · rename_i a rest hhost
    cases a with
    | writeSrc addr bs => cases h
    | writeReg no v =>
      simp only [fetchAction, Except.ok.injEq] at h
      split at h
      · rename_i hno
        obtain ⟨rfl, rfl⟩ := Fetched.instr.inj h
        exact ⟨v, rest, hno ▸ hhost, rfl, by simp [hp]⟩
      · cases h

/-- Outside READY a command other than RESOLVE and RESET changes nothing (`46_resolver.md` R254). -/
theorem exec_cmd_ignored {i : Instr} {s : State} (hi : i.stream = .cmd) (hres : i ≠ .cmdResolve) (hreset : i ≠ .cmdReset)
    (hu : s.unit ≠ .ready) : exec i s = .next s := by
  obtain ⟨hlevel, hchain⟩ := ignoredCommandsDoNothing.1 s hu
  cases i <;> simp only [Instr.stream, reduceCtorEq] at hi
  case cmdResolve => exact absurd rfl hres
  case cmdReset => exact absurd rfl hreset
  case cmdLevel => exact hlevel
  case cmdChain => exact hchain
  all_goals rfl

/-- Outside READY a host write changes neither STATE nor the registers of the fault (`46_resolver.md` R255). -/
theorem hostAct_keeps_fault {a : HostAction} {s t : State} (hu : s.unit ≠ .ready) (h : hostAct a s = .next t) :
    t.unit = s.unit ∧ t.fault = s.fault ∧ t.faultInfo = s.faultInfo := by
  obtain ⟨addr, bs, rfl⟩ | ⟨n, rfl⟩ | rfl | ⟨hr, -⟩ := hostAct_cases h
  · exact ⟨rfl, rfl, rfl⟩
  · exact ⟨rfl, rfl, rfl⟩
  · exact ⟨rfl, rfl, rfl⟩
  · exact absurd hr hu

/-- A step of a faulted unit that runs neither RESOLVE nor RESET keeps the fault (`60_exceptions.md` R271). -/
theorem step_keeps_fault {s t : State} (hi : Inv s) (hu : s.unit = .faulted) (h : step s = .next t)
    (hcmd : ∀ v rest, s.host = .writeReg 0 v :: rest → decodeCmd (BitVec.ofNat 3 v) ≠ .cmdResolve ∧
      decodeCmd (BitVec.ofNat 3 v) ≠ .cmdReset) :
    t.unit = s.unit ∧ t.fault = s.fault ∧ t.faultInfo = s.faultInfo := by
  have hready : s.unit ≠ .ready := by simp [hu]
  have hp := waiting_of_faulted hi hu
  obtain ⟨-, rfl⟩ | ⟨a, u, hf, ha⟩ | ⟨i, u, w, hf, hw, hr⟩ := step_cases h
  · exact ⟨rfl, rfl, rfl⟩
  · obtain ⟨-, rest, rfl⟩ := fetch_action hf
    exact hostAct_keeps_fault (s := { s with host := rest }) hready ha
  · obtain ⟨v, rest, hhost, rfl, rfl⟩ := fetch_command hp hf
    obtain ⟨hres, hreset⟩ := hcmd v rest hhost
    obtain rfl := retire_outside_level (by simp [hp]) (by simp [hp]) hr
    rw [exec_cmd_ignored (decodeCmd_stream _) hres hreset (by exact hready)] at hw
    obtain rfl := Host.Outcome.next.inj hw
    exact ⟨rfl, rfl, rfl⟩

/-- Settles O55: RESOLVE's pseudocode clears the fault first, RESET clears it, every other step keeps it. -/
theorem faultedUntilResolveOrReset : Obligations.FaultedUntilResolveOrReset := by
  refine ⟨fun s hu => ?_, fun s t hi hu h hcmd => hu ▸ step_keeps_fault hi hu h hcmd⟩
  obtain ⟨hlevel, hchain⟩ := ignoredCommandsDoNothing.1 s (by simp [hu])
  exact ⟨hlevel, hchain, ⟨resetUnit s, rfl, rfl, rfl, rfl⟩,
    _, resolveComputesItsPseudocode s, resolveComputesItsPseudocode _⟩

end Sys2Proof.Proofs
end

section
/-! ## Reset, and RESOLVE a second time

RESOLVE clears first, so what it reads of a state is SRC and SRC_LEN. It ends in one of two ways, and either end sets all that
it does not take over from the state it started in; a second RESOLVE therefore finds nothing to change. -/

namespace Sys2Proof.Proofs

open Sys2Proof.Machine Sys2Proof.Safety Sys2Proof.Claims

/-! ### What RESOLVE reads -/

/-- The clear leaves SRC and SRC_LEN of the visible part (`46_resolver.md` R237). -/
theorem clearForResolve_sameVisible {s u : State} (hsrc : s.src = u.src) (hlen : s.srcLen = u.srcLen) :
    SameVisible (clearForResolve s) (clearForResolve u) := by
  simp only [SameVisible, visible, clearForResolve, hsrc, hlen]

/-- RESOLVE clears first, so a clear before it is not seen. -/
theorem exec_cmdResolve_clearForResolve (s : State) : exec .cmdResolve (clearForResolve s) = exec .cmdResolve s := rfl

/-- From the same SRC and SRC_LEN, RESOLVE leaves the same visible part (`70_reset_and_hazards.md` R292). -/
theorem exec_cmdResolve_tracks {s u : State} (hsrc : s.src = u.src) (hlen : s.srcLen = u.srcLen) :
    Tracks SameVisible (exec .cmdResolve s) (exec .cmdResolve u) := by
  rw [← exec_cmdResolve_clearForResolve s, ← exec_cmdResolve_clearForResolve u]
  exact exec_cmd_tracks rfl (clearForResolve_sameVisible hsrc hlen)

/-! ### How RESOLVE ends -/

/-- The two ends of RESOLVE from a state, over the cleared registers and some headers loaded. -/
inductive ResolveEnd (s : State) : State → Prop
  /-- a fault (`60_exceptions.md` R270) -/
  | fault (f : FaultClass) (info : Word) (hd : Header) (x : Option ExtHeader) :
      ResolveEnd s (faulted f info { clearForResolve s with hdr := hd, ext := x })
  /-- a codec (`46_resolver.md` R247) -/
  | codec (f : Fmt) (payload : Nat) (hd : Header) (x : Option ExtHeader) :
      ResolveEnd s (resolved f payload { clearForResolve s with hdr := hd, ext := x })

/-- The pseudocode ends in one of the two ways. -/
theorem resolveSpec_end (s : State) : ResolveEnd s (resolveSpec s) := by
  unfold resolveSpec
  dsimp only
  split
  · exact .fault _ _ {} none
  split
  · exact .fault _ _ (headerIn s) none
  split
  · exact .fault _ _ (headerIn s) none
  split
  · exact .fault _ _ (headerIn s) none
  split
  · exact .fault _ _ (headerIn s) none
  split
  · split
    · exact .fault _ _ (headerIn s) none
    · split
      · exact .fault _ _ (headerIn s) (some (extHeaderIn s))
      · exact .codec _ _ (headerIn s) (some (extHeaderIn s))
  · split
    · exact .fault _ _ (headerIn s) none
    · exact .codec _ _ (headerIn s) none

/-- So does RESOLVE. -/
theorem exec_cmdResolve_end {s t : State} (h : exec .cmdResolve s = .next t) : ResolveEnd s t := by
  rw [resolveComputesItsPseudocode s] at h
  obtain rfl := Host.Outcome.next.inj h
  exact resolveSpec_end s

/-- RESOLVE after RESOLVE: an end of the same visible part is the same state, PAD and the phase among it. -/
theorem ResolveEnd.eq_of_sameVisible {s t v : State} (ht : ResolveEnd s t) (hv : ResolveEnd t v) (h : SameVisible t v) :
    v = t := by
  have hunit : t.unit = v.unit := congrArg Visible.unit h
  have hhdr : t.hdr = v.hdr := congrArg Visible.hdr h
  have hext : t.ext = v.ext := congrArg Visible.ext h
  cases ht with
  | fault f info hd x =>
    cases hv with
    | fault f' info' hd' x' =>
      obtain rfl : hd = hd' := hhdr
      obtain rfl : x = x' := hext
      obtain rfl : f = f' := congrArg Visible.fault h
      obtain rfl : info = info' := congrArg Visible.faultInfo h
      rfl
    | codec => cases hunit
  | codec f payload hd x =>
    cases hv with
    | fault => cases hunit
    | codec f' payload' hd' x' =>
      obtain rfl : hd = hd' := hhdr
      obtain rfl : x = x' := hext
      obtain rfl : f = f' := congrArg Visible.fmt h
      obtain rfl : payload = payload' := congrArg Visible.srcOff h
      rfl

/-! ### What the host reads after reset -/

/-- What a register that holds 0 answers the host, or a number that names no register. -/
def ReadsZero (o : Option Nat) : Prop := o = none ∨ o = some 0

theorem readsZero_none : ReadsZero none := .inl rfl

theorem readsZero_zero : ReadsZero (some 0) := .inr rfl

theorem readsZero_ite {c : Prop} [Decidable c] {a b : Option Nat} (ha : ReadsZero a) (hb : ReadsZero b) :
    ReadsZero (if c then a else b) := by
  split
  · exact ha
  · exact hb

/-- A bank of registers that hold 0. -/
theorem readsZero_bank {l : List Word} (h : ∀ w ∈ l, w = 0) (n : Nat) : ReadsZero (l[n]?.map BitVec.toNat) := by
  cases hn : l[n]? with
  | none => exact readsZero_none
  | some w =>
    obtain rfl := h w (List.mem_of_getElem? hn)
    exact readsZero_zero

/-- The header registers hold 0 after reset (`70_reset_and_hazards.md` R291). -/
theorem reset_hdr_regs : ∀ w ∈ State.reset.hdr.regs, w = 0 := by
  simp [State.reset, Header.regs]

/-- So do those of the extended header, which is absent (`10_state.md` R29). -/
theorem reset_ext_regs : ∀ w ∈ (State.reset.ext.getD {}).regs, w = 0 := by
  simp [State.reset, ExtHeader.regs]

/-- A number the host may read after reset reads 0, beyond 48 too: registers 1-9, 16-35, 40, 41-45 and 48, in this order. -/
theorem hostRead_reset (no : Nat) : ReadsZero (hostRead State.reset no) := by
  unfold hostRead
  iterate 9 refine readsZero_ite readsZero_zero ?_
  refine readsZero_ite (readsZero_bank reset_hdr_regs _) ?_
  refine readsZero_ite readsZero_zero ?_
  refine readsZero_ite (readsZero_bank reset_ext_regs _) ?_
  exact readsZero_ite readsZero_zero readsZero_none

/-! ### Settled -/

/-- Settles O38: RESOLVE tracks SRC and SRC_LEN, which it leaves; run again, it ends as it did. -/
theorem resolveForgetsThePast : Obligations.ResolveForgetsThePast := by
  intro s u t hsrc hlen ht
  obtain ⟨v, hv, htv⟩ := exec_cmdResolve_tracks hsrc hlen t ht
  have hkept : Kept s t := exec_kept (by decide) ht
  obtain ⟨w, hw, htw⟩ := exec_cmdResolve_tracks hkept.src.symm hkept.srcLen.symm t ht
  obtain rfl := (exec_cmdResolve_end ht).eq_of_sameVisible (exec_cmdResolve_end hw) htw
  exact ⟨⟨v, hv, htv.symm⟩, hw⟩

/-- Settles O48: a reset unit over the empty SRC, and the scratch of the reset state. -/
theorem resetMeetsTheInvariant : Obligations.ResetMeetsTheInvariant :=
  ⟨inv_resetUnit (s := State.reset) State.reset_src_wf, scratchOk_reset⟩

/-- Settles O49: field by field, and whatever the number the host reads. -/
theorem resetStateIsTheTable : Obligations.ResetStateIsTheTable :=
  ⟨rfl, rfl, rfl, rfl, rfl, rfl, rfl, rfl, rfl, rfl, reset_hdr_regs, rfl, rfl, rfl, rfl, rfl, rfl, rfl, rfl, rfl, rfl, rfl,
    fun no _ => hostRead_reset no⟩

end Sys2Proof.Proofs
end
